-- ==== Sys2Proof/Word.lean ====
section
/-! DEFINITION. The word types of the LVDS PLL/sequencer block (R8, R52). -/

namespace Sys2Proof

/-- A host-visible operand, result or command word: 32 bits (R8, R71). -/
abbrev Word := BitVec 32

/-- The value of a device-register field whose width the spec leaves open (`VALUE`, `DLYCNT`,
`OTHER`; R30 to R34). DESIGN CHOICE: 32 bits, the width of the whole register (log entry 14). -/
abbrev FieldVal := BitVec 32

/-- One byte of the serializer register block. -/
abbrev Byte := BitVec 8

end Sys2Proof
end

