-- ==== Sys2Proof/Config.lean ====
section
/-! DEFINITION. What an implementation fixes: the generation, the topology, and the OPEN parameters
of 92_eei_decisions.md. Every constant that the spec leaves open is `opaque` with no body, so no
proof can see its value. Where the spec constrains a parameter, the constraint is built into the way
Machine/Params.lean assembles it from these constants. -/

namespace Sys2Proof

/-- Hardware generation, fixed at construction (R2, R20). -/
inductive Gen where
  | old  -- `GEN_OLD`
  | new  -- `GEN_NEW`
deriving DecidableEq, Repr, Inhabited

/-- Topology, fixed at construction (R2, R20). -/
inductive Topo where
  | legacy  -- discrete PLL
  | shared  -- shared/dual PLL
deriving DecidableEq, Repr, Inhabited

/-- The serializer's reset line `RST` (R36). -/
inductive ResetLine where
  | asserted
  | deasserted
deriving DecidableEq, Repr, Inhabited

/-- The serializer's feeding clock `CLK` (R37). -/
inductive ClockLine where
  | on
  | off
deriving DecidableEq, Repr, Inhabited

/-- The byte order of the register block (R56). -/
inductive ByteOrder where
  | little
  | big
deriving DecidableEq, Repr, Inhabited

/-- The five device registers of the serializer block (R30 to R34, R81). -/
inductive Reg where
  | route
  | chan
  | pll
  | pllDiv
  | en
deriving DecidableEq, Repr, Inhabited

namespace Config

/-! ### Launch parameters of the attached block (R20, R251; log entry 2) -/

/-- `GEN` of the block that `State.reset` attaches. -/
opaque attachGen : Gen
/-- `TOPO` of the block that `State.reset` attaches. -/
opaque attachTopo : Topo
/-- `LANE` of the block that `State.reset` attaches. -/
opaque attachLane : Nat
/-- `BASE / 4` of the block that `State.reset` attaches: an attached `BASE` is a multiple of 4 (R57). -/
opaque attachBaseWord : Nat
/-- The handle of the feeding clock (R20). -/
opaque attachClkHandle : Nat
/-- The handle of the reset line (R20). -/
opaque attachRstHandle : Nat
/-- `RST_AT_ATTACH` (R36). -/
opaque rstAtAttach : ResetLine
/-- `CLK_AT_ATTACH` (R37). -/
opaque clkAtAttach : ClockLine

/-! ### The sequencer's tables (R7; log entry 16) -/

/-- `CLAMP_MAX[GEN_OLD] - CLAMP_MIN[GEN_OLD]`: any value that keeps the maximum below 999 000 (R161). -/
opaque clampSpanOld : Fin 969000
/-- `CLAMP_MAX[GEN_NEW] - CLAMP_MIN[GEN_NEW]`: any value that keeps the maximum below 999 000 (R161). -/
opaque clampSpanNew : Fin 973825
/-- `BAND_THRESH[g][0]` in kHz (R144). -/
opaque bandFirst : Gen → Nat
/-- One less than each difference between neighbouring thresholds: the table is strictly increasing (R144). -/
opaque bandGap : Gen → Fin 3 → Nat
/-- `PLL_DLY[g][b]`, the coarse PLL delay-count constants (R144). -/
opaque pllDly : Gen → Fin 4 → FieldVal
/-- `ROUTE_VALUE(g, t, mode)` (R30). -/
opaque routeValue : Gen → Topo → BitVec 4 → FieldVal
/-- `CHAN_VALUE(g, t)` (R31). -/
opaque chanValue : Gen → Topo → FieldVal
/-- `PLL_OTHER(g, t)` (R32). -/
opaque pllOther : Gen → Topo → FieldVal
/-- `EN_OTHER(g, t, mode)` (R34). -/
opaque enOther : Gen → Topo → BitVec 4 → FieldVal
/-- `MODE_RESET` (R23). -/
opaque modeReset : BitVec 4
/-- The modes besides `MODE_RESET`: bit `m` is set when mode `m` is one of them (R23). -/
opaque modesMore : BitVec 16

/-! ### The register block (R52 to R56; log entries 13 to 15) -/

/-- The packing of a register's named fields into its word, for each value of its `OTHER` field. A
packing injective on all values of the named fields extends to a permutation of the 32-bit words (D16).
DESIGN CHOICE: all values of their widths, legal or not (log entry 14). -/
opaque packing : Gen → Topo → Reg → FieldVal → Equiv.Perm Word
/-- `OFFSET(reg) / 4` for the register with identifier `n`: distinct because it permutes (R54). -/
opaque offsetWord : Gen → Topo → Equiv.Perm Nat
/-- `BYTE_ORDER` (R56). -/
opaque byteOrder : ByteOrder

/-! ### Draws of the environment (free values; log entries 5 and 6) -/

/-- The clock controller's answer to its `n`-th request, where no answer is given as an input (R192). -/
opaque clkAnswer : Nat → Bool
/-- The duration of the `n`-th settle delay beyond 100 microseconds, where none is given as an input:
0 to 50 (R194). -/
opaque settleDraw : Nat → Fin 51

end Config

end Sys2Proof
end

