-- ==== Sys2Proof/Syntax.lean ====
section
/-! DEFINITION. The commands of the block: one constructor per row of spec/opcode_table.json (R72). -/

namespace Sys2Proof

/-- The command set (R72). -/
inductive Instr where
  /-- `SYNTH`, with the extra-divider flag `E` (R110). -/
  | synth (e : Bool)
  /-- `PLL_CALC` (R120). -/
  | pllCalc
  /-- `CLAMP` (R160). -/
  | clamp
  /-- `SET_MODE`, with the mode number; the encoding has 4 bits for it (R170, R71). -/
  | setMode (mode : Nat)
  /-- `ENABLE` (R140). -/
  | enable
  /-- `DISABLE`, with the keep flag `KEEP` (R150). -/
  | disable (keep : Bool)
deriving DecidableEq, Repr

/-- The rows of the opcode map, without their operands (R72). -/
inductive Op where
  | synth
  | pllCalc
  | clamp
  | setMode
  | enable
  | disable
deriving DecidableEq, Repr

/-- The row a command belongs to. -/
def Instr.op : Instr → Op
  | .synth _ => .synth
  | .pllCalc => .pllCalc
  | .clamp => .clamp
  | .setMode _ => .setMode
  | .enable => .enable
  | .disable _ => .disable

end Sys2Proof
end

