-- ==== Sys2Proof/WellFormed.lean ====
section
/-! DEFINITION. Which commands the command word can express (R71). -/

namespace Sys2Proof

/-- A command is well formed when its operands fit their fields. The flags `E` and `KEEP` are one bit
each; the mode of `SET_MODE` has 4 bits (R71). Membership of the mode in `MODES` is not a matter of
form: it is checked when the command runs (R79). -/
def Instr.wellFormed : Instr → Bool
  | .synth _ => true
  | .pllCalc => true
  | .clamp => true
  | .setMode mode => decide (mode < 16)
  | .enable => true
  | .disable _ => true

end Sys2Proof
end

