-- ==== Sys2Proof/Decode.lean ====
section
/-! DEFINITION. Decoding and encoding of the command word (R71 to R80). -/

namespace Sys2Proof

/-- Why a word is no command; every such word finishes with `ILLEGAL_COMMAND` (R77, R78). -/
inductive DecodeError where
  /-- `OP` is 0 or 7 to 15 (R77). Safe: the step reports it as the spec says. -/
  | reservedOpcode
  /-- `OP` names a command but a bit reserved for it is 1 (R78). Safe: the step reports it. -/
  | reservedBits
deriving DecidableEq, Repr

/-- The match word of each row (R73). -/
def Op.pattern : Op → Word
  | .synth => 0x00000001
  | .pllCalc => 0x00000002
  | .clamp => 0x00000003
  | .setMode => 0x00000004
  | .enable => 0x00000005
  | .disable => 0x00000006

/-- The mask of each row (R73). -/
def Op.mask : Op → Word
  | .synth => 0xFFFFFFEF
  | .pllCalc => 0xFFFFFFFF
  | .clamp => 0xFFFFFFFF
  | .setMode => 0xFFFFF0FF
  | .enable => 0xFFFFFFFF
  | .disable => 0xFFFFFFDF

/-- A word is command `X` when it agrees with the pattern under the mask (R73). -/
def Op.spells (x : Op) (w : Word) : Bool := w &&& x.mask == x.pattern

/-- The rows in the order the decoder tries them (R80). -/
def Op.all : List Op := [.synth, .pllCalc, .clamp, .setMode, .enable, .disable]

/-- The field `OP`, bits 3 to 0 (R71). -/
def opField (w : Word) : BitVec 4 := w.extractLsb' 0 4

/-- The field `MODE`, bits 11 to 8 (R71). -/
def modeField (w : Word) : BitVec 4 := w.extractLsb' 8 4

/-- The command of a row, with its operands read from the word (R71, R74). -/
def Op.read : Op → Word → Instr
  | .synth, w => .synth (w.getLsbD 4)
  | .pllCalc, _ => .pllCalc
  | .clamp, _ => .clamp
  | .setMode, w => .setMode (modeField w).toNat
  | .enable, _ => .enable
  | .disable, w => .disable (w.getLsbD 5)

/-- Decoding, total on every 32-bit word (R80). -/
def decode (w : Word) : Except DecodeError Instr :=
  match Op.all.find? (fun x => x.spells w) with
  | some x => .ok (x.read w)
  | none =>
    if (opField w).toNat = 0 ∨ 7 ≤ (opField w).toNat then .error .reservedOpcode
    else .error .reservedBits

/-- The operand bits of a command, in their places (R71, R82). -/
def Instr.operandBits : Instr → Word
  | .synth e => if e then 0x00000010 else 0
  | .setMode mode => BitVec.ofNat 32 mode <<< 8
  | .disable keep => if keep then 0x00000020 else 0
  | .pllCalc => 0
  | .clamp => 0
  | .enable => 0

/-- The word of a well-formed command: its row's pattern with the operands set (R73, R82). -/
def encode (i : Instr) : Word := i.op.pattern ||| i.operandBits

/-- The command the decoder reads from an instruction whose bits are `w`, bit 0 the least significant.
A command is one 32-bit word and is written whole, so no byte order takes part (R71). -/
def decodeTableWord (nbits w : Nat) : Option Instr :=
  if w % 2 ^ nbits < 2 ^ 32 then (decode (BitVec.ofNat 32 (w % 2 ^ nbits))).toOption else none

end Sys2Proof
end

