-- ==== Sys2Proof/Machine/State.lean ====
section
/-! DEFINITION. The state of one block, as plain data, and its value right after a successful attach
(R20 to R42). -/

namespace Sys2Proof.Machine

/-- The sequencer's two persisted states, `SEQ_STATE` (R22). -/
inductive SeqState where
  | disabled
  | enabled
deriving DecidableEq, Repr

/-- The micro-PC `UPC`: the step names of 41_encoder_sequencer.md (R27). -/
inductive Upc where
  | idle
  | enRst
  | enClk
  | enClkFail
  | enRoute
  | enChan
  | enLPll
  | enLBias
  | enLPllOn
  | enLDelay
  | enLReady
  | enSPll
  | enSDiv
  | enSPllOn
  | enSLvEn
  | enSReady
  | disPll
  | disChan
  | disEn
  | disClk
  | disRst
deriving DecidableEq, Repr

/-- The reasons of a model fault (R226). -/
inductive FaultReason where
  /-- The host wrote `CMD`, or asked for detach, while `BUSY = 1` (R70, R253). -/
  | busyIssue
  /-- `ENABLE` in `SHARED` from `DISABLED` with no valid `PLLRES` (R148). -/
  | noPllResult
  /-- A read of state that holds no value (R226). -/
  | unwrittenRead
deriving DecidableEq, Repr

/-- The status codes (R220). -/
inductive Status where
  | ok
  | invalidConfiguration
  | clockEnableFailure
  | illegalCommand
  | resourceUnavailable
  | allocationFailure
deriving DecidableEq, Repr

/-- The fields of `PLLRES` when `VALID = 1` (R24). `VALID = 0` is `none` at the place of use: the
other fields then hold no value (log entry 4). -/
structure PllRegister where
  n : BitVec 7
  m : BitVec 3
  e : Bool
  div : BitVec 7
  freq : Word
  err : Word
deriving DecidableEq, Repr

/-- The field record of `REG_PLL`, which depends on the topology (R32). -/
inductive PllFields where
  | legacy (dlyCnt other : FieldVal)
  | shared (n : BitVec 7) (m : BitVec 3) (e : Bool) (other : FieldVal)
deriving DecidableEq, Repr

/-- The field record of `REG_EN` (R34). -/
structure EnFields where
  bias : Bool
  lvEn : Bool
  pllEn : Bool
  ready : Bool
  other : FieldVal
deriving DecidableEq, Repr

/-- A device register together with the field record written to it (R193). -/
inductive RegWrite where
  | route (value : FieldVal)
  | chan (value : FieldVal)
  | pll (fields : PllFields)
  | pllDiv (div : BitVec 7)
  | en (fields : EnFields)
deriving DecidableEq, Repr

/-- The device registers: each holds no value until its first write (R35; log entry 4). -/
structure DeviceRegs where
  route : Option FieldVal
  chan : Option FieldVal
  pll : Option PllFields
  pllDiv : Option (BitVec 7)
  en : Option EnFields
deriving DecidableEq, Repr

/-- The bus events, with their arguments and, for `CLK_ENABLE`, its outcome (R39, R81, R190 to R195).
The duration of a `DELAY` is in whole microseconds (R81). -/
inductive Event where
  | resetDeassert
  | clkEnable (ok : Bool)
  | regWrite (w : RegWrite)
  | delay (t : Nat)
  | clkDisable
  | resetAssert
deriving DecidableEq, Repr

/-- The settle timer (R194, R234): started by `DELAY`, ended by a step of its own, after which the
resume step is enabled. -/
inductive SettleTimer where
  | idle
  | running (t : Nat)
  | ended
deriving DecidableEq, Repr

/-- The result registers the host can read (R75). -/
inductive HostReg where
  | status
  | pllRes0
  | pllRes1
  | pllRes2
  | clampOut
  | state
deriving DecidableEq, Repr

/-- What the host last read: one word, or the three words of `PLLRES` at once (R58, R75). -/
inductive HostData where
  | word (r : HostReg) (w : Word)
  | pllRes (w0 w1 w2 : Word)
deriving DecidableEq, Repr

/-- A move of the host (R12, R50, R58, R70, R75, R253). `read` reads one word; `readPllRes` reads `PLLRES`
whole, as one access (R58; log entry 9). `wait` is the host's making no move: the one step
of the timer or the block that is enabled, if any, then takes place (log entries 1 and 11). -/
inductive Move where
  | writeFin (w : Word)
  | writeTarget (w : Word)
  | writeCmd (w : Word)
  | read (r : HostReg)
  | readPllRes
  | detach
  | wait
deriving DecidableEq, Repr

/-- The configuration, fixed at construction and never changed (R20). -/
structure BlockConfig where
  gen : Gen
  topo : Topo
  lane : Nat
  base : Nat
  clkHandle : Nat
  rstHandle : Nat
deriving DecidableEq, Repr

/-- The state of one block (R21), with its device registers, its lines, and the pending moves and
draws of its environment. INVENTORY.md lists each field with its rule and reset value. -/
structure State where
  cfg : BlockConfig
  attached : Bool
  seqState : SeqState
  mode : BitVec 4
  pllRes : Option PllRegister
  clampOut : Option Word
  status : Status
  busy : Bool
  upc : Upc
  faulted : Option FaultReason
  cmd : Word
  argFin : Word
  argTarget : Word
  hist : List Event
  dev : DeviceRegs
  rst : ResetLine
  clk : ClockLine
  timer : SettleTimer
  lockKnown : Bool
  moves : List Move
  clkAnswers : List Bool
  clkCount : Nat
  settleDraws : List (Fin 51)
  settleCount : Nat
  hostData : Option HostData
deriving DecidableEq, Repr

/-- Why the machine takes no step. -/
inductive Fault where
  /-- The block's sticky fault mark is set: a faulted block takes no further step (R28). Raised by
  `step`. Safe: the spec says the same. -/
  | stopped (reason : FaultReason)
  /-- The block was detached, so there is none to take a step (R253). Raised by `step`. Safe: no claim
  about a later step can be proved. -/
  | noBlock
deriving DecidableEq, Repr

/-- Why an instruction has no meaning. -/
inductive Refusal where
  /-- The instruction has no meaning in this model yet. No arm of `exec` answers so. Safe. -/
  | notModelled (mnemonic : String)
deriving DecidableEq, Repr

/-- The device registers after attach: no values (R35). -/
def DeviceRegs.unwritten : DeviceRegs :=
  { route := none, chan := none, pll := none, pllDiv := none, en := none }

/-- The state of a block right after a successful attach, for given launch parameters (R41, R250).
The command latch holds no value there; DESIGN CHOICE: it reads 0 (log entry 3). -/
def State.attach (cfg : BlockConfig) (rst : ResetLine) (clk : ClockLine) : State where
  cfg := cfg
  attached := true
  seqState := .disabled
  mode := Config.modeReset
  pllRes := none
  clampOut := none
  status := .ok
  busy := false
  upc := .idle
  faulted := none
  cmd := 0
  argFin := 0
  argTarget := 0
  hist := []
  dev := .unwritten
  rst := rst
  clk := clk
  timer := .idle
  lockKnown := false
  moves := []
  clkAnswers := []
  clkCount := 0
  settleDraws := []
  settleCount := 0
  hostData := none

/-- The configuration of the block that `State.reset` attaches: free launch parameters (log entry 2). -/
def BlockConfig.launch : BlockConfig where
  gen := Config.attachGen
  topo := Config.attachTopo
  lane := Config.attachLane
  base := 4 * Config.attachBaseWord
  clkHandle := Config.attachClkHandle
  rstHandle := Config.attachRstHandle

/-- The machine right after reset: the block's reset is its attach (R41, R250). -/
def State.reset : State :=
  State.attach BlockConfig.launch Config.rstAtAttach Config.clkAtAttach

end Sys2Proof.Machine
end

