-- ==== Sys2Proof/Machine/Params.lean ====
section
/-! DEFINITION. The named constants of R6 and R7, and the OPEN parameters of 92_eei_decisions.md as
assembled from the constants of Config so that the spec's constraints hold. -/

namespace Sys2Proof.Machine

/-! ### The constants of the PLL search, in hertz (R6) -/

def finMin : Nat := 12000000
def finMax : Nat := 192000000
def np1Min : Nat := 60
def np1Max : Nat := 120
def mp1Min : Nat := 1
def mp1Max : Nat := 7
def fvcoMin : Nat := 900000000
def fvcoMax : Nat := 1800000000
def fpfdMin : Nat := 12000000
def fpfdMax : Nat := 24000000
def fpreMax : Nat := 1039500000
def extraDiv : Nat := 2
def postDiv : Nat := 7
def divMin : Nat := 1
def divMax : Nat := 64

/-! ### The settle delay, in microseconds (R7) -/

def settleMin : Nat := 100
def settleMax : Nat := 150

/-! ### The clamp bounds, in kHz (R161) -/

/-- `CLAMP_MIN[g]` (R161). -/
def clampMin : Gen → Nat
  | .old => 30000
  | .new => 25175

/-- `CLAMP_MAX[g]`: OPEN, at least the minimum and below 999 000 (R161; log entry 16). -/
def clampMax : Gen → Nat
  | .old => clampMin .old + Config.clampSpanOld.val
  | .new => clampMin .new + Config.clampSpanNew.val

/-! ### The band tables of the legacy topology (R144) -/

/-- `BAND_THRESH[g][k]` in kHz: OPEN, strictly increasing (R144; log entry 16). -/
def bandThresh (g : Gen) : Fin 4 → Nat
  | 0 => Config.bandFirst g
  | 1 => Config.bandFirst g + (Config.bandGap g 0 + 1)
  | 2 => Config.bandFirst g + (Config.bandGap g 0 + 1) + (Config.bandGap g 1 + 1)
  | 3 => Config.bandFirst g + (Config.bandGap g 0 + 1) + (Config.bandGap g 1 + 1) + (Config.bandGap g 2 + 1)

/-- `band(g, f)`: the half-open band of a frequency in kHz; the fourth threshold is never compared (R144). -/
def band (g : Gen) (f : Nat) : Fin 4 :=
  if f < bandThresh g 0 then 0
  else if f < bandThresh g 1 then 1
  else if f < bandThresh g 2 then 2
  else 3

/-- `b60`, the band that the spec names "60 MHz": the one `band(GEN_OLD, 60000)` selects (R144). -/
def b60 : Fin 4 := band .old 60000

/-! ### The output modes (R23) -/

/-- Membership in `MODES`: `MODE_RESET` is a member, the other members of [0, 15] are OPEN (R23; log entry 16). -/
def inModes (mode : Nat) : Bool :=
  decide (mode < 16) && (decide (mode = Config.modeReset.toNat) || Config.modesMore.getLsbD mode)

/-! ### The register block (R52 to R57) -/

/-- The register identifiers (R81). -/
def regId : Reg → Nat
  | .route => 0
  | .chan => 1
  | .pll => 2
  | .pllDiv => 3
  | .en => 4

/-- `OFFSET(reg)` of a `(GEN, TOPO)` pair: OPEN, five distinct multiples of 4 (R54; log entry 15). -/
def offset (g : Gen) (t : Topo) (r : Reg) : Nat := 4 * Config.offsetWord g t (regId r)

/-- The register a write goes to. -/
def RegWrite.reg : RegWrite → Reg
  | .route _ => .route
  | .chan _ => .chan
  | .pll _ => .pll
  | .pllDiv _ => .pllDiv
  | .en _ => .en

/-- The `OTHER` field of a written record, 0 where the record has none (R32, R34). -/
def RegWrite.other : RegWrite → FieldVal
  | .route _ => 0
  | .chan _ => 0
  | .pll (.legacy _ other) => other
  | .pll (.shared _ _ _ other) => other
  | .pllDiv _ => 0
  | .en v => v.other

/-- The named fields of a written record, side by side in one word: the argument of the OPEN packing
(D16; log entry 14). -/
def RegWrite.named : RegWrite → Word
  | .route value => value
  | .chan value => value
  | .pll (.legacy dlyCnt _) => dlyCnt
  | .pll (.shared n m e _) => (BitVec.ofBool e ++ m ++ n).setWidth 32
  | .pllDiv div => div.setWidth 32
  | .en v => (BitVec.ofBool v.ready ++ BitVec.ofBool v.pllEn ++ BitVec.ofBool v.lvEn ++ BitVec.ofBool v.bias).setWidth 32

/-- A permutation of the words made to leave 0 in place. -/
def keepZero (e : Equiv.Perm Word) : Equiv.Perm Word := Equiv.swap (e 0) 0 * e

/-- `PACK(reg, v)`: OPEN, injective on the named fields of a register, and 0 for the record whose
every field is 0 (R193, D16). DESIGN CHOICE (log entry 14): the spec leaves open over which values of the
fields it is injective, and how `DIV` is encoded (R33); here it is over every value of their widths, so
`DIV = 1` never packs to 0, as it would in a register holding just the value minus one. -/
def pack (g : Gen) (t : Topo) (w : RegWrite) : Word :=
  (if w.other = 0 then keepZero (Config.packing g t w.reg w.other) else Config.packing g t w.reg w.other) w.named

/-- The record that `REG_WRITE(reg, 0)` writes: every field 0 (R193). -/
def zeroPll : Topo → PllFields
  | .legacy => .legacy 0 0
  | .shared => .shared 0 0 false 0

/-- The all-zero record of `REG_EN` (R193, R34). -/
def zeroEn : EnFields := { bias := false, lvEn := false, pllEn := false, ready := false, other := 0 }

/-! ### The natural-number primitives (R9) -/

/-- `|a - b|` on naturals (R9). -/
def absDiff (a b : Nat) : Nat := max a b - min a b

/-- `clamp(x, lo, hi)` (R9). -/
def clampNat (x lo hi : Nat) : Nat := min (max x lo) hi

end Sys2Proof.Machine
end

