-- ==== Sys2Proof/Machine/Flags.lean ====
section
/-! DEFINITION. The block has no condition flags (R40). This file gives what stands in their place: the
status codes and the status bits as the host reads them (R75, R220). -/

namespace Sys2Proof.Machine

/-- The numeric status codes (R220). -/
def Status.code : Status → Word
  | .ok => 0
  | .invalidConfiguration => 1
  | .clockEnableFailure => 2
  | .illegalCommand => 3
  | .resourceUnavailable => 4
  | .allocationFailure => 5

/-- The word `PLLRES0`: `VALID` bit 0, `E` bit 1, `M` bits 6 to 4, `N` bits 14 to 8, `DIV` bits 22 to
16, other bits 0; all bits 0 when `VALID = 0` (R75; log entry 19). -/
def pllRes0Word : Option PllRegister → Word
  | none => 0
  | some r =>
    1 ||| ((BitVec.ofBool r.e).setWidth 32 <<< 1) ||| (r.m.setWidth 32 <<< 4)
      ||| (r.n.setWidth 32 <<< 8) ||| (r.div.setWidth 32 <<< 16)

/-- The word `PLLRES1`: the realized frequency, 0 when `VALID = 0` (R75). -/
def pllRes1Word : Option PllRegister → Word
  | none => 0
  | some r => r.freq

/-- The word `PLLRES2`: the absolute error, 0 when `VALID = 0` (R75). -/
def pllRes2Word : Option PllRegister → Word
  | none => 0
  | some r => r.err

/-- The word `STATE`: bit 0 is 1 when `ENABLED`, bit 1 is `BUSY`, bits 11 to 8 are `MODE`, other bits 0 (R75). -/
def stateWord (s : State) : Word :=
  (BitVec.ofBool (s.seqState == .enabled)).setWidth 32
    ||| ((BitVec.ofBool s.busy).setWidth 32 <<< 1) ||| (s.mode.setWidth 32 <<< 8)

/-- What the host reads from a result register; `none` where the register holds no value, which only
`CLAMP_OUT` can (R75). -/
def hostWord (r : HostReg) (s : State) : Option Word :=
  match r with
  | .status => some (Status.code s.status)
  | .pllRes0 => some (pllRes0Word s.pllRes)
  | .pllRes1 => some (pllRes1Word s.pllRes)
  | .pllRes2 => some (pllRes2Word s.pllRes)
  | .clampOut => s.clampOut
  | .state => some (stateWord s)

end Sys2Proof.Machine
end

