-- ==== Sys2Proof/Machine/Operands.lean ====
section
/-! DEFINITION. Operand assembly (R74): each latch is read whole and zero-extended; nothing is
sign-extended, scaled or shifted. The one-bit and mode operands are in the decoded command. -/

namespace Sys2Proof.Machine

/-- `fin = ARG_FIN`, in hertz (R74). -/
def finOperand (s : State) : Nat := s.argFin.toNat

/-- `target = ARG_TARGET`, in hertz, of `SYNTH` and `PLL_CALC` (R74). -/
def targetHz (s : State) : Nat := s.argTarget.toNat

/-- `f = ARG_TARGET`, in kHz, of `CLAMP` and `ENABLE` (R74). -/
def targetKHz (s : State) : Nat := s.argTarget.toNat

end Sys2Proof.Machine
end

