-- ==== Sys2Proof/Machine/Ops.lean ====
section
/-! DEFINITION. The shared operations: ending a command, raising a model fault, performing bus events,
the draws of the environment, and the views of the register block (R10, R39, R52, R190 to R195).
The block has no traps (R231); what stands in the place of taking an exception is `raise`, and there
is no return from it (R226). -/

namespace Sys2Proof.Machine

/-! ### The end of a command -/

/-- `finish(status)` (R10). -/
def finish (st : Status) (s : State) : State :=
  { s with status := st, busy := false, upc := .idle }

/-- `raise FAULT(reason)`: the sticky fault mark is set and nothing else changes; a faulted block takes
no further step (R10, R28, R226; log entry 7). -/
def raise (reason : FaultReason) (s : State) : State :=
  { s with faulted := some reason }

/-- Writing `CMD` latches the word and sets `BUSY` (R70). -/
def latch (w : Word) (s : State) : State :=
  { s with cmd := w, busy := true }

/-! ### Bus events -/

/-- A device register takes the written record (R193). -/
def DeviceRegs.write (d : DeviceRegs) : RegWrite → DeviceRegs
  | .route value => { d with route := some value }
  | .chan value => { d with chan := some value }
  | .pll fields => { d with pll := some fields }
  | .pllDiv div => { d with pllDiv := some div }
  | .en fields => { d with en := some fields }

/-- What a register write does to the knowledge that the PLL is locked (R38, R262; log entry 12). With
`PLLEN` set, a `SHARED` PLL is locked at once and a `LEGACY` one keeps what was known; reprogramming
the PLL, or clearing `PLLEN`, loses the knowledge. -/
def lockAfter (t : Topo) (known : Bool) : RegWrite → Bool
  | .route _ => known
  | .chan _ => known
  | .pll _ => false
  | .pllDiv _ => false
  | .en v => v.pllEn && (t == .shared || known)

/-- The effect of a bus event (R190 to R195). -/
def perform (ev : Event) (s : State) : State :=
  match ev with
  | .resetDeassert => { s with rst := .deasserted }
  | .clkEnable ok => { s with clk := if ok then .on else s.clk }
  | .regWrite w => { s with dev := s.dev.write w, lockKnown := lockAfter s.cfg.topo s.lockKnown w }
  | .delay t => { s with busy := true, timer := .running t }
  | .clkDisable => { s with clk := .off, lockKnown := false }
  | .resetAssert => { s with rst := .asserted, lockKnown := false }

/-- `emit(ev)`: the event is performed and appended to `HIST` (R10, R39). -/
def emit (ev : Event) (s : State) : State :=
  { perform ev s with hist := s.hist ++ [ev] }

/-- One micro-step: `UPC` takes the step's name and the event is emitted (41_encoder_sequencer.md R140). -/
def microStep (u : Upc) (ev : Event) (s : State) : State :=
  emit ev { s with upc := u }

/-- A sequence of micro-steps, performed one at a time in order (R55). -/
def runSteps : List (Upc × Event) → State → State
  | [], s => s
  | (u, ev) :: rest, s => runSteps rest (microStep u ev s)

/-! ### The draws -/

/-- The clock controller's next answer: the next input, or the free value where none is given (R192; log entry 5). -/
def clkOutcome (s : State) : Bool :=
  match s.clkAnswers with
  | ok :: _ => ok
  | [] => Config.clkAnswer s.clkCount

/-- The answer has been used. -/
def consumeClk (s : State) : State :=
  { s with clkAnswers := s.clkAnswers.tail, clkCount := s.clkCount + 1 }

/-- The settle timer's next duration in microseconds: 100 to 150, an input or a free value (R194; log entry 6). -/
def settleTime (s : State) : Nat :=
  match s.settleDraws with
  | d :: _ => settleMin + d.val
  | [] => settleMin + (Config.settleDraw s.settleCount).val

/-- The duration has been used. -/
def consumeSettle (s : State) : State :=
  { s with settleDraws := s.settleDraws.tail, settleCount := s.settleCount + 1 }

/-! ### Reads that a model may make (R226) -/

/-- The record a device register holds, if it holds one. -/
def DeviceRegs.held (d : DeviceRegs) : Reg → Option RegWrite
  | .route => d.route.map .route
  | .chan => d.chan.map .chan
  | .pll => d.pll.map .pll
  | .pllDiv => d.pllDiv.map .pllDiv
  | .en => d.en.map .en

/-- A read of a device register. A read before the first write is `UNWRITTEN_READ` (R35, R226). -/
def readDevice (r : Reg) (d : DeviceRegs) : Except FaultReason RegWrite :=
  match d.held r with
  | some w => .ok w
  | none => .error .unwrittenRead

/-- The fields of `PLLRES`. A read with `VALID = 0` is `UNWRITTEN_READ` (R24, R226). -/
def readPllRes (s : State) : Except FaultReason PllRegister :=
  match s.pllRes with
  | some r => .ok r
  | none => .error .unwrittenRead

/-! ### The register block as memory (views; R50 to R57, log entries 13 to 15) -/

/-- The address of a device register: `BASE + OFFSET(reg)` (R52). -/
def regAddress (c : BlockConfig) (r : Reg) : Nat := c.base + offset c.gen c.topo r

/-- The one bus write of a `REG_WRITE`: its address and its 32-bit word (R52, R193). -/
def busWrite (c : BlockConfig) (w : RegWrite) : Nat × Word :=
  (regAddress c w.reg, pack c.gen c.topo w)

/-- The bus write of an event, if it has one. -/
def Event.busWrite? (c : BlockConfig) : Event → Option (Nat × Word)
  | .regWrite w => some (busWrite c w)
  | .resetDeassert => none
  | .clkEnable _ => none
  | .delay _ => none
  | .clkDisable => none
  | .resetAssert => none

/-- Every bus write the block has made, in order (R55, R62). -/
def busTrace (s : State) : List (Nat × Word) := s.hist.filterMap (Event.busWrite? s.cfg)

/-- The word last written at an address of the register block; `none` where nothing was written (R62). -/
def busWord (s : State) (a : Nat) : Option Word :=
  match [Reg.route, .chan, .pll, .pllDiv, .en].find? (fun r => regAddress s.cfg r == a) with
  | some r => (s.dev.held r).map (pack s.cfg.gen s.cfg.topo)
  | none => none

/-- The place of a byte of the register block in its word, in the OPEN byte order, which no rule of the
block reads (R56). -/
def byteIndex (a : Nat) : Nat :=
  match Config.byteOrder with
  | .little => a % 4
  | .big => 3 - a % 4

/-- One byte of the register block; `none` where nothing was written (R56, R62). -/
def blockByte (s : State) (a : Nat) : Option Byte :=
  (busWord s (a - a % 4)).map (fun w => w.extractLsb' (8 * byteIndex a) 8)

/-- The event tags (R81). -/
def Event.tag : Event → Nat
  | .resetDeassert => 0
  | .clkEnable _ => 1
  | .regWrite _ => 2
  | .delay _ => 3
  | .clkDisable => 4
  | .resetAssert => 5

end Sys2Proof.Machine
end

