-- ==== Sys2Proof/Machine/Sequencer.lean ====
section
/-! DEFINITION. The commands of the encoder sequencer: `CLAMP`, `SET_MODE`, `ENABLE`, `DISABLE`, and the
resumption of a paused power-up (R140 to R171). -/

namespace Sys2Proof.Machine

/-! ### The register records of the sequences (R30 to R34) -/

/-- `REG_ROUTE` at power-up (R30). -/
def routeWrite (s : State) : Event := .regWrite (.route (Config.routeValue s.cfg.gen s.cfg.topo s.mode))

/-- `REG_CHAN` at power-up (R31). -/
def chanWrite (s : State) : Event := .regWrite (.chan (Config.chanValue s.cfg.gen s.cfg.topo))

/-- A whole write of `REG_EN` at power-up: the named bits, and `OTHER` (R34). -/
def enWrite (s : State) (bias lvEn pllEn ready : Bool) : Event :=
  .regWrite (.en { bias := bias, lvEn := lvEn, pllEn := pllEn, ready := ready,
                   other := Config.enOther s.cfg.gen s.cfg.topo s.mode })

/-! ### Power-up -/

/-- The two writes common to both topologies (R140). -/
def commonSteps (s : State) : List (Upc × Event) :=
  [(.enRoute, routeWrite s), (.enChan, chanWrite s)]

/-- The legacy branch up to and with its settle delay, for the band of `f` kHz (R141). -/
def legacySteps (s : State) (f : Nat) : List (Upc × Event) :=
  [(.enLPll, .regWrite (.pll (.legacy (Config.pllDly s.cfg.gen (band s.cfg.gen f))
      (Config.pllOther s.cfg.gen .legacy)))),
   (.enLBias, enWrite s true true false false),
   (.enLPllOn, enWrite s true true true false),
   (.enLDelay, .delay (settleTime s))]

/-- The shared branch, for a valid PLL result (R142). -/
def sharedSteps (s : State) (r : PllRegister) : List (Upc × Event) :=
  [(.enSPll, .regWrite (.pll (.shared r.n r.m r.e (Config.pllOther s.cfg.gen .shared)))),
   (.enSDiv, .regWrite (.pllDiv r.div)),
   (.enSPllOn, enWrite s false false true false),
   (.enSLvEn, enWrite s false true true false),
   (.enSReady, enWrite s false true true true)]

/-- Reset release and the clock request, with the clock controller's answer (R140, R192). -/
def startClock (s : State) : State :=
  consumeClk (runSteps [(.enRst, .resetDeassert), (.enClk, .clkEnable (clkOutcome s))] s)

/-- The clock did not start: reset is asserted again and the command ends (R143). -/
def clockFail (s : State) : State :=
  finish .clockEnableFailure (microStep .enClkFail .resetAssert s)

/-- The legacy branch: the block pauses in its settle delay, with `UPC` at the next step (R141, R146). -/
def legacyPowerUp (s : State) : State :=
  { consumeSettle (runSteps (commonSteps s ++ legacySteps s (targetKHz s)) s) with upc := .enLReady }

/-- The shared branch, to its end (R140, R142). -/
def sharedPowerUp (r : PllRegister) (s : State) : State :=
  finish .ok { runSteps (commonSteps s ++ sharedSteps s r) s with seqState := .enabled }

/-- A full power-up from `DISABLED` in `LEGACY` (R140). -/
def legacyEnable (s : State) : State :=
  if clkOutcome s then legacyPowerUp (startClock s) else clockFail (startClock s)

/-- A full power-up from `DISABLED` in `SHARED`, with a valid PLL result (R140). -/
def sharedEnable (r : PllRegister) (s : State) : State :=
  if clkOutcome s then sharedPowerUp r (startClock s) else clockFail (startClock s)

/-- `ENABLE`, its checks in the order of R228: no-op while enabled (R147), fault with no PLL result in
`SHARED` (R148), then the power-up (R140). -/
def enable (s : State) : State :=
  match s.seqState, s.cfg.topo, s.pllRes with
  | .enabled, _, _ => finish .ok s
  | .disabled, .legacy, _ => legacyEnable s
  | .disabled, .shared, none => raise .noPllResult s
  | .disabled, .shared, some r => sharedEnable r s

/-- The settle timer's own step ends the delay and enables the resume step; by then a legacy PLL is
locked (R194, R262; log entry 12). -/
def endSettle (s : State) : State :=
  { s with timer := .ended, lockKnown := true }

/-- The resume step: the last write of the legacy power-up, then the end of the command (R141, R146). -/
def resume (s : State) : State :=
  finish .ok { microStep .enLReady (enWrite s true true true true) s with seqState := .enabled, timer := .idle }

/-! ### Power-down -/

/-- The five events of a teardown, in order (R150). -/
def teardownSteps (s : State) : List (Upc × Event) :=
  [(.disPll, .regWrite (.pll (zeroPll s.cfg.topo))),
   (.disChan, .regWrite (.chan 0)),
   (.disEn, .regWrite (.en zeroEn)),
   (.disClk, .clkDisable),
   (.disRst, .resetAssert)]

/-- The full teardown, which `DISABLE` and detach share (R150, R253). -/
def teardown (s : State) : State :=
  { runSteps (teardownSteps s) s with seqState := .disabled }

/-- `DISABLE`: no-op while disabled (R152), skipped teardown in `SHARED` with the keep flag (R151), else
the teardown (R150). -/
def disable (keep : Bool) (s : State) : State :=
  match s.seqState, s.cfg.topo, keep with
  | .disabled, _, _ => finish .invalidConfiguration s
  | .enabled, .shared, true => finish .ok { s with seqState := .disabled }
  | .enabled, .shared, false => finish .ok (teardown s)
  | .enabled, .legacy, _ => finish .ok (teardown s)

/-! ### The clamp and the mode -/

/-- The clamped frequency in kHz (R160). -/
def clampResult (g : Gen) (f : Nat) : Nat := clampNat f (clampMin g) (clampMax g)

/-- `MODE` takes a mode of `MODES`; any other mode is an illegal command and changes nothing (R170, R79). -/
def storeMode (mode : Nat) (s : State) : State :=
  if inModes mode then finish .ok { s with mode := BitVec.ofNat 4 mode } else finish .illegalCommand s

/-! ### The meanings of the four commands -/

/-- `CLAMP` (R160). -/
def execClamp (s : State) : Host.Outcome State Fault Refusal :=
  .next (finish .ok { s with clampOut := some (BitVec.ofNat 32 (clampResult s.cfg.gen (targetKHz s))) })

/-- `SET_MODE` (R170). -/
def execSetMode (mode : Nat) (s : State) : Host.Outcome State Fault Refusal :=
  .next (storeMode mode s)

/-- `ENABLE` (R140). -/
def execEnable (s : State) : Host.Outcome State Fault Refusal :=
  .next (enable s)

/-- `DISABLE` (R150). -/
def execDisable (keep : Bool) (s : State) : Host.Outcome State Fault Refusal :=
  .next (disable keep s)

end Sys2Proof.Machine
end

