-- ==== Sys2Proof/Machine/Search.lean ====
section
/-! DEFINITION. The PLL search engine: a pure function of its operands over exact natural numbers, every
division floored, in the order of R107 (R100 to R108, R121). -/

namespace Sys2Proof.Machine

/-- A PLLResult with exact natural numbers (R24, R104). -/
structure PllResult where
  n : Nat
  m : Nat
  e : Bool
  div : Nat
  freq : Nat
  err : Nat
deriving DecidableEq, Repr

/-- The VCO frequency of a pair, `⌊fin·(N+1) ÷ (M+1)⌋`, the product exact (R102). -/
def fvco (fin np1 mp1 : Nat) : Nat := fin * np1 / mp1

/-- The phase-detector frequency, `⌊fin ÷ (M+1)⌋` (R102). -/
def fpfd (fin mp1 : Nat) : Nat := fin / mp1

/-- The frequency before the fixed post-divider: the extra stage halves it (R102). -/
def foutPre (e : Bool) (v : Nat) : Nat := if e then v / extraDiv else v

/-- The three stage checks of a pair: VCO band, phase-detector band, pre-divider limit, bounds legal (R102). -/
def legalPair (fin : Nat) (e : Bool) (np1 mp1 : Nat) : Bool :=
  decide (fvcoMin ≤ fvco fin np1 mp1) && decide (fvco fin np1 mp1 ≤ fvcoMax)
    && decide (fpfdMin ≤ fpfd fin mp1) && decide (fpfd fin mp1 ≤ fpfdMax)
    && decide (foutPre e (fvco fin np1 mp1) ≤ fpreMax)

/-- The frequency of a pair after the fixed post-divider (R102). -/
def fout (fin : Nat) (e : Bool) (np1 mp1 : Nat) : Nat := foutPre e (fvco fin np1 mp1) / postDiv

/-- The candidate of a pair and an output divider, with its error (R103, R104). -/
def candidate (fin target : Nat) (e : Bool) (np1 mp1 div : Nat) : PllResult where
  n := np1 - 1
  m := mp1 - 1
  e := e
  div := div
  freq := fout fin e np1 mp1 / div
  err := absDiff (fout fin e np1 mp1 / div) target

/-- A candidate replaces the best when there is none yet, or when its error is strictly smaller (R104). -/
def better (best : Option PllResult) (c : PllResult) : Option PllResult :=
  match best with
  | none => some c
  | some b => if c.err < b.err then some c else some b

/-- An exact match ends the whole search (R105). -/
def isExact (best : Option PllResult) : Bool :=
  match best with
  | none => false
  | some b => b.err == 0

/-- The innermost loop, over the output dividers of one legal pair (R103 to R105). -/
def scanDivs (fin target : Nat) (e : Bool) (np1 mp1 : Nat) : List Nat → Option PllResult → Option PllResult
  | [], best => best
  | div :: divs, best =>
    let best' := better best (candidate fin target e np1 mp1 div)
    if isExact best' then best' else scanDivs fin target e np1 mp1 divs best'

/-- The output dividers, ascending (R101). -/
def divs : List Nat := List.range' divMin (divMax + 1 - divMin)

/-- The pairs `(N+1, M+1)`, the multiplier outermost, both ascending (R101). -/
def pairs : List (Nat × Nat) :=
  (List.range' np1Min (np1Max + 1 - np1Min)).flatMap fun np1 =>
    (List.range' mp1Min (mp1Max + 1 - mp1Min)).map fun mp1 => (np1, mp1)

/-- The two outer loops: an illegal pair is skipped, an exact match ends the search (R102, R105). -/
def scanPairs (fin target : Nat) (e : Bool) : List (Nat × Nat) → Option PllResult → Option PllResult
  | [], best => best
  | (np1, mp1) :: rest, best =>
    if legalPair fin e np1 mp1 then
      let best' := scanDivs fin target e np1 mp1 divs best
      if isExact best' then best' else scanPairs fin target e rest best'
    else scanPairs fin target e rest best

/-- `search(fin, target, e)` (R107): the pre-check (R100), then the loops. -/
def search (fin target : Nat) (e : Bool) : Option PllResult :=
  if fin < finMin ∨ finMax < fin then none else scanPairs fin target e pairs none

/-- `select(r0, r1)`: the run with the strictly smaller error, the first on a tie; an empty run loses (R121). -/
def select (r0 r1 : Option PllResult) : Option PllResult :=
  match r0, r1 with
  | none, r1 => r1
  | some b0, none => some b0
  | some b0, some b1 => if b1.err < b0.err then some b1 else some b0

/-- The two runs of `PLL_CALC` and their selection (R120). -/
def pllCalcResult (fin target : Nat) : Option PllResult :=
  select (search fin target false) (search fin target true)

/-- A result narrowed to the fields of `PLLRES` (R24, R76). -/
def toRegister (r : PllResult) : PllRegister where
  n := BitVec.ofNat 7 r.n
  m := BitVec.ofNat 3 r.m
  e := r.e
  div := BitVec.ofNat 7 r.div
  freq := BitVec.ofNat 32 r.freq
  err := BitVec.ofNat 32 r.err

end Sys2Proof.Machine
end

