-- ==== Sys2Proof/Machine/Synthesizer.lean ====
section
/-! DEFINITION. The commands of the PLL search engine: `SYNTH` and `PLL_CALC` (R110, R120). -/

namespace Sys2Proof.Machine

/-- The whole of `PLLRES` is written and the command ends: `OK` with a result, `INVALID_CONFIGURATION`
and `VALID = 0` without one (R110, R120). -/
def writeResult (r : Option PllResult) (s : State) : State :=
  match r with
  | some r => finish .ok { s with pllRes := some (toRegister r) }
  | none => finish .invalidConfiguration { s with pllRes := none }

/-- `SYNTH`: one search run (R110). -/
def execSynth (e : Bool) (s : State) : Host.Outcome State Fault Refusal :=
  .next (writeResult (search (finOperand s) (targetHz s) e) s)

/-- `PLL_CALC`: both search runs and the selection (R120). -/
def execPllCalc (s : State) : Host.Outcome State Fault Refusal :=
  .next (writeResult (pllCalcResult (finOperand s) (targetHz s)) s)

end Sys2Proof.Machine
end

