-- ==== Sys2Proof/Machine/Dispatch.lean ====
section
/-! DEFINITION. The dispatch of a decoded command to its meaning (R80). -/

namespace Sys2Proof.Machine

def exec (i : Instr) (s : State) : Host.Outcome State Fault Refusal :=
  match i with
  | .synth e => Sys2Proof.Machine.execSynth e s
  | .pllCalc => Sys2Proof.Machine.execPllCalc s
  | .clamp => Sys2Proof.Machine.execClamp s
  | .setMode mode => Sys2Proof.Machine.execSetMode mode s
  | .enable => Sys2Proof.Machine.execEnable s
  | .disable keep => Sys2Proof.Machine.execDisable keep s

end Sys2Proof.Machine
end

