-- ==== Sys2Proof/Machine/Moves.lean ====
section
/-! DEFINITION. The moves of the host, the settle timer and the resumed block (R12, R70, R75, R194, R253).
`step` takes the next move from the queue and calls these. -/

namespace Sys2Proof.Machine

/-- The host writes `CMD`: a fault while busy; else the word is latched, decoded and run. A word that is
no command ends at once with `ILLEGAL_COMMAND` (R70, R77 to R80, R228). -/
def issue (w : Word) (s : State) : Host.Outcome State Fault Refusal :=
  if s.busy then .next (raise .busyIssue s)
  else
    match decode w with
    | .ok i => exec i (latch w s)
    | .error _ => .next (finish .illegalCommand (latch w s))

/-- The host reads a result register, a fault where it holds no value (R75, R226; log entry 9). -/
def hostRead (r : HostReg) (s : State) : State :=
  match hostWord r s with
  | some w => { s with hostData := some (.word r w) }
  | none => raise .unwrittenRead s

/-- The host reads `PLLRES` whole: all its fields are those of one moment (R58, R75; log entry 9). -/
def hostReadPllRes (s : State) : State :=
  { s with hostData := some (.pllRes (pllRes0Word s.pllRes) (pllRes1Word s.pllRes) (pllRes2Word s.pllRes)) }

/-- Detach: a fault while busy; an enabled block is torn down first, a disabled one emits nothing; then
the block is gone (R253; log entry 8). -/
def detach (s : State) : State :=
  if s.busy then raise .busyIssue s
  else
    match s.seqState with
    | .enabled => { teardown s with upc := .idle, attached := false }
    | .disabled => { s with attached := false }

/-- The one step that the timer or the block can take without the host: the timer ends a settle delay,
then the block resumes; an idle block stays as it is (R146, R194, R271; log entry 11). -/
def advance (s : State) : State :=
  match s.upc, s.timer with
  | .enLReady, .running _ => endSettle s
  | .enLReady, .ended => resume s
  | _, _ => s

/-- One move of the host. -/
def makeMove (m : Move) (s : State) : Host.Outcome State Fault Refusal :=
  match m with
  | .writeFin w => .next { s with argFin := w }
  | .writeTarget w => .next { s with argTarget := w }
  | .writeCmd w => issue w s
  | .read r => .next (hostRead r s)
  | .readPllRes => .next (hostReadPllRes s)
  | .detach => .next (detach s)
  | .wait => .next (advance s)

/-- The next move is taken from the queue and made; with none left the machine advances by itself. -/
def takeMove (s : State) : Host.Outcome State Fault Refusal :=
  match s.moves with
  | [] => .next (advance s)
  | m :: rest => makeMove m { s with moves := rest }

/-- The queue with a write of `CMD` placed in front: the command the next step runs (log entry 1). -/
def withCommand (s : State) (w : Word) : State :=
  { s with moves := .writeCmd w :: s.moves }

end Sys2Proof.Machine
end

