-- ==== Sys2Proof/Machine/Step.lean ====
section
/-! DEFINITION. One step of the machine (R11, R12, R28). -/

namespace Sys2Proof.Machine

/-- One step. A detached block and a faulted block take none (R28, R253); else the next move is made. -/
def step (s : State) : Host.Outcome State Fault Refusal :=
  if s.attached then
    match s.faulted with
    | some reason => .fault (.stopped reason)
    | none => takeMove s
  else .fault .noBlock

/-- The state in which the next step runs the command whose bits are `w`: the host's write of that word
to `CMD` is the next move (R70; log entry 1). -/
def State.withFetchWord (s : State) (nbits w : Nat) : State :=
  withCommand s (BitVec.ofNat 32 (w % 2 ^ nbits))

end Sys2Proof.Machine
end

