-- ==== Sys2Proof/Machine/HostProgram.lean ====
section
/-! DEFINITION. The host's command lines and the two pseudo-instructions, as lists of host moves (R82, R83). -/

namespace Sys2Proof.Machine

/-- One line of a command program (R82): the operands it sets and its command. An operand left out keeps
the value the latch last held. -/
structure Line where
  fin : Option Word
  target : Option Word
  cmd : Instr
deriving DecidableEq, Repr

/-- The host's moves for one line: the operands first, then `CMD` (R63), then waiting until `BUSY = 0`.
Two waits are enough: one for the settle timer, one for the resume step (log entry 24). -/
def Line.moves (l : Line) : List Move :=
  (l.fin.map Move.writeFin).toList ++ (l.target.map Move.writeTarget).toList
    ++ [.writeCmd (encode l.cmd), .wait, .wait]

/-- A command program: its lines, one after the other (R82). -/
def programMoves (ls : List Line) : List Move := ls.flatMap Line.moves

/-- `CLAMP_OUT` as the host reads it after `CLAMP target=f` on a block of generation `g` (R83, R160). -/
def clampedKHz (g : Gen) (f : Word) : Nat := clampNat f.toNat (clampMin g) (clampMax g)

/-- `MODESET fin=<Hz>, f=<kHz>` (R83): the host reads `CLAMP_OUT` and converts it to hertz. -/
def modeset (g : Gen) (fin f : Word) : List Line :=
  [{ fin := none, target := some f, cmd := .clamp },
   { fin := some fin, target := some (BitVec.ofNat 32 (clampedKHz g f * 1000)), cmd := .pllCalc },
   { fin := none, target := some (BitVec.ofNat 32 (clampedKHz g f)), cmd := .enable }]

/-- `RESTART f=<kHz>` (R83). -/
def restart (f : Word) : List Line :=
  [{ fin := none, target := none, cmd := .disable false },
   { fin := none, target := some f, cmd := .enable }]

end Sys2Proof.Machine
end

