-- ==== Sys2Proof/Machine/Platform.lean ====
section
/-! DEFINITION. The platform: attach of a list of lanes with its failures, and the interleaved steps of
the attached blocks (R229, R236, R250 to R252). Blocks share nothing (R236 to R238). -/

namespace Sys2Proof.Machine

/-- What the hardware description supplies for one lane (R251): `none` where a resource cannot be
acquired, and whether memory for the block can be allocated (R252). -/
structure LaneDesc where
  gen : Gen
  topo : Topo
  lane : Nat
  region : Option Nat
  clkHandle : Option Nat
  rstHandle : Option Nat
  memory : Bool
deriving DecidableEq, Repr

/-- Attach of one lane: the new block's state, or why it is not created. A misaligned `BASE` counts as a
region that cannot be acquired (R57, R251, R252; log entry 18). -/
def attachLane (rst : ResetLine) (clk : ClockLine) (d : LaneDesc) : Except Status State :=
  match d.memory, d.region, d.clkHandle, d.rstHandle with
  | false, _, _, _ => .error .allocationFailure
  | true, some base, some clkHandle, some rstHandle =>
    if base % 4 = 0 then
      .ok (State.attach { gen := d.gen, topo := d.topo, lane := d.lane, base := base,
                          clkHandle := clkHandle, rstHandle := rstHandle } rst clk)
    else .error .resourceUnavailable
  | true, _, _, _ => .error .resourceUnavailable

/-- What an attach that was not aborted leaves: the blocks, and each lane's report. -/
structure AttachReport where
  blocks : List State
  reports : List (Nat × Status)
deriving DecidableEq, Repr

/-- Attach of all lanes. A lane without a resource is left out alone (R251); an allocation failure
aborts the whole attach and no block exists afterwards (R252). -/
def attachAll (rst : ResetLine) (clk : ClockLine) : List LaneDesc → Except Status AttachReport
  | [] => .ok { blocks := [], reports := [] }
  | d :: ds =>
    match attachLane rst clk d with
    | .error .allocationFailure => .error .allocationFailure
    | .error st =>
      (attachAll rst clk ds).map fun a => { a with reports := (d.lane, st) :: a.reports }
    | .ok s =>
      (attachAll rst clk ds).map fun a => { blocks := s :: a.blocks, reports := (d.lane, .ok) :: a.reports }

/-- One step of the platform: the block at position `k` steps, the others stay (R229). -/
def stepLane (k : Nat) (blocks : List State) : Host.Outcome (List State) Fault Refusal :=
  match blocks[k]? with
  | none => .fault .noBlock
  | some s =>
    match step s with
    | .next s' => .next (blocks.set k s')
    | .fault r => .fault r
    | .refused r => .refused r

/-- A run of the platform: the lanes step in the order of a schedule, which may be any (R62, R229). -/
def runLanes : List Nat → List State → Host.Outcome (List State) Fault Refusal
  | [], blocks => .next blocks
  | k :: ks, blocks =>
    match stepLane k blocks with
    | .next after => runLanes ks after
    | .fault r => .fault r
    | .refused r => .refused r

end Sys2Proof.Machine
end

