-- ==== Sys2Proof/Safety.lean ====
section
/-! DEFINITION. What counts as a safe run, in the terms of the spec's hazards (R42, R227, R260 to R264), and
what a finished run shows (R272). -/

namespace Sys2Proof.Machine

/-! ### What the event history alone says -/

/-- What an observer of the bus knows after a history of events: the lines as the block last drove them,
the last write to each device register, whether the PLL has settled since it was last started, and
whether no hazard has occurred. -/
structure BusView where
  rst : Option ResetLine
  clk : Option ClockLine
  dev : DeviceRegs
  settled : Bool
  safe : Bool
deriving DecidableEq, Repr

/-- Before any event nothing is known and nothing has gone wrong. -/
def BusView.start : BusView :=
  { rst := none, clk := none, dev := .unwritten, settled := false, safe := true }

/-- Whether the last write of `REG_EN` started the PLL. -/
def pllOn (d : DeviceRegs) : Bool :=
  match d.en with
  | some v => v.pllEn
  | none => false

/-- Whether the PLL counts as settled after a register write: starting a `SHARED` PLL settles it at once,
a `LEGACY` one stays as it was; reprogramming or stopping it unsettles it (R38, R59, R262). -/
def settledAfter (t : Topo) (settled : Bool) : RegWrite → Bool
  | .route _ => settled
  | .chan _ => settled
  | .pll _ => false
  | .pllDiv _ => false
  | .en v => if v.pllEn then (match t with | .shared => true | .legacy => settled) else false

/-- A write may set `READY` only with the PLL on and settled (R227, R262). -/
def readyAllowed (settled : Bool) : RegWrite → Bool
  | .en v => !v.ready || (v.pllEn && settled)
  | .route _ => true
  | .chan _ => true
  | .pll _ => true
  | .pllDiv _ => true

/-- One more event. A register write is a hazard unless the reset is released and the clock is on (R260),
and unless it may set the `READY` it sets (R262). A delay must last 100 to 150 microseconds (R194). -/
def BusView.after (t : Topo) (b : BusView) : Event → BusView
  | .resetDeassert => { b with rst := some .deasserted }
  | .clkEnable ok => { b with clk := if ok then some .on else b.clk }
  | .regWrite w =>
    { b with dev := b.dev.write w, settled := settledAfter t b.settled w,
             safe := b.safe && decide (b.rst = some .deasserted) && decide (b.clk = some .on)
                      && readyAllowed b.settled w }
  | .delay d =>
    { b with settled := b.settled || pllOn b.dev,
             safe := b.safe && decide (100 ≤ d) && decide (d ≤ 150) }
  | .clkDisable => { b with clk := some .off, settled := false }
  | .resetAssert => { b with rst := some .asserted, settled := false }

/-- What a whole history says. -/
def busView (t : Topo) (h : List Event) : BusView := h.foldl (BusView.after t) .start

/-- A history in which none of the hazards R260 and R262 occurs and every delay keeps its bounds (R194). -/
def HazardFree (t : Topo) (h : List Event) : Prop := (busView t h).safe = true

/-! ### The invariant of a block -/

/-- The legal values of a valid `PLLRES` (R24). -/
def LegalResult (r : PllRegister) : Prop :=
  59 ≤ r.n.toNat ∧ r.n.toNat ≤ 119 ∧ r.m.toNat ≤ 6 ∧ 1 ≤ r.div.toNat ∧ r.div.toNat ≤ 64
    ∧ r.freq.toNat ≤ 148500000

/-- The output runs: the lines and registers as a finished power-up leaves them (R42, R240). -/
def Powered (s : State) : Prop :=
  (busView s.cfg.topo s.hist).rst = some .deasserted ∧ (busView s.cfg.topo s.hist).clk = some .on
    ∧ (busView s.cfg.topo s.hist).settled = true
    ∧ ∃ v, s.dev.en = some v ∧ v.lvEn = true ∧ v.pllEn = true ∧ v.ready = true

/-- A legacy power-up waits in its settle delay (R27, R146). -/
def Paused (s : State) : Prop :=
  s.busy = true ∧ s.upc = .enLReady ∧ s.cfg.topo = .legacy ∧ s.seqState = .disabled
    ∧ (∃ t, 100 ≤ t ∧ t ≤ 150 ∧ s.hist.getLast? = some (.delay t) ∧ (s.timer = .running t ∨ s.timer = .ended))
    ∧ (busView s.cfg.topo s.hist).rst = some .deasserted ∧ (busView s.cfg.topo s.hist).clk = some .on
    ∧ (busView s.cfg.topo s.hist).settled = true
    ∧ ∃ v, s.dev.en = some v ∧ v.bias = true ∧ v.lvEn = true ∧ v.pllEn = true ∧ v.ready = false

/-- The invariant that every step keeps. The last two clauses are about a block with `FAULTED = none`, as
R42 says. -/
structure BlockInv (s : State) : Prop where
  base_aligned : s.cfg.base % 4 = 0
  hazard_free : HazardFree s.cfg.topo s.hist
  dev_last_write : s.dev = (busView s.cfg.topo s.hist).dev
  rst_last_driven : ∀ l, (busView s.cfg.topo s.hist).rst = some l → s.rst = l
  clk_last_driven : ∀ l, (busView s.cfg.topo s.hist).clk = some l → s.clk = l
  result_legal : ∀ r, s.pllRes = some r → LegalResult r
  mode_legal : inModes s.mode.toNat = true
  clamp_legal : ∀ w, s.clampOut = some w → clampMin s.cfg.gen ≤ w.toNat ∧ w.toNat ≤ clampMax s.cfg.gen
  enabled_powered : s.seqState = .enabled → Powered s ∧ s.busy = false ∧ s.lockKnown = true
  busy_paused : s.faulted = none → s.busy = true → Paused s ∧ (s.timer = .ended → s.lockKnown = true)
  idle_rests : s.faulted = none → s.busy = false → s.upc = .idle ∧ s.timer = .idle
  disabled_down : s.faulted = none → s.busy = false → s.seqState = .disabled →
    s.hist = [] ∨ s.hist.getLast? = some .resetAssert ∨ (s.cfg.topo = .shared ∧ Powered s)

/-! ### The end of a run -/

/-- Nothing is left to do at one block: it is neither busy nor faulted, and the host has issued its last
command there (R272). DESIGN CHOICE (log entry 27): R272 names the last command, and the model waits for the
last move of any kind, so a read, an operand write, a detach or a `wait` still to come holds the run open. -/
def BlockEnded (s : State) : Prop := s.moves = [] ∧ s.busy = false ∧ s.faulted = none

/-- A run has ended: nothing is left to do at any block of the platform. One lane that is paused or faulted,
or that the host has a command for, keeps the whole run from its end (R272); that any other move to come does
so too is the model's choice (log entry 27). -/
def RunEnded (blocks : List State) : Prop := ∀ s ∈ blocks, BlockEnded s

/-- What a finished run shows of one block (R272). -/
structure Observation where
  hist : List Event
  seqState : SeqState
  mode : BitVec 4
  pllRes : Option PllRegister
  clampOut : Option Word
  status : Status
  rst : ResetLine
  clk : ClockLine
  dev : DeviceRegs
deriving DecidableEq, Repr

/-- The observation of a state (R272). -/
def observe (s : State) : Observation where
  hist := s.hist
  seqState := s.seqState
  mode := s.mode
  pllRes := s.pllRes
  clampOut := s.clampOut
  status := s.status
  rst := s.rst
  clk := s.clk
  dev := s.dev

/-- The observation of a run: that of every block, in the order of the lanes (R272). -/
def observeRun (blocks : List State) : List Observation := blocks.map observe

end Sys2Proof.Machine
end

