-- ==== Sys2Proof/Certificates/Slice0/Obligations.lean ====
section
/-! DEFINITION. The statements about the block, each a numbered rule of spec/ or derived from it. The
arithmetic of the PLL search is written out here from R102 and R103, not taken from the model. -/

open Sys2Proof Sys2Proof.Machine

/-! ### The search arithmetic, written out from the spec -/

/-- The frequency before the post-divider (R102, steps 1 and 3). -/
def Sys2Proof.Claim.preDivider (fin : Nat) (e : Bool) (np1 mp1 : Nat) : Nat :=
  if e = true then fin * np1 / mp1 / 2 else fin * np1 / mp1

/-- A legal pair: inside the search domain (R101) and past every stage check (R102). -/
def Sys2Proof.Claim.Legal (fin : Nat) (e : Bool) (np1 mp1 : Nat) : Prop :=
  60 ≤ np1 ∧ np1 ≤ 120 ∧ 1 ≤ mp1 ∧ mp1 ≤ 7
    ∧ 900000000 ≤ fin * np1 / mp1 ∧ fin * np1 / mp1 ≤ 1800000000
    ∧ 12000000 ≤ fin / mp1 ∧ fin / mp1 ≤ 24000000
    ∧ Sys2Proof.Claim.preDivider fin e np1 mp1 ≤ 1039500000

/-- The candidate frequency of a pair and an output divider (R102 step 4, R103). -/
def Sys2Proof.Claim.output (fin : Nat) (e : Bool) (np1 mp1 div : Nat) : Nat :=
  Sys2Proof.Claim.preDivider fin e np1 mp1 / 7 / div

/-- The absolute difference (R9). -/
def Sys2Proof.Claim.distance (a b : Nat) : Nat := if a ≤ b then b - a else a - b

/-! ### The command word -/

/-- R70, R80: a write of `CMD` as the next move. A faulted block takes no step; a busy one raises
`BUSY_ISSUE`; else the step is the command's own, run from the state with the word latched and `BUSY` set;
a word that is no command only reports `ILLEGAL_COMMAND`. The model's own choices: the queue of moves (log
entry 1), the Lean fault `stopped` (log entry 7), and that an illegal word is latched (log entry 20). -/
def Obligations.StepRunsDecodedCommand : Prop :=
  ∀ (s : State) (w : Word) (rest : List Move), s.attached = true → s.moves = .writeCmd w :: rest →
    (∀ r, s.faulted = some r → step s = .fault (.stopped r))
    ∧ (s.faulted = none → s.busy = true →
        step s = .next { s with moves := rest, faulted := some .busyIssue })
    ∧ (s.faulted = none → s.busy = false → ∀ i, decode w = .ok i →
        step s = exec i { s with moves := rest, cmd := w, busy := true })
    ∧ (s.faulted = none → s.busy = false → ∀ e, decode w = .error e →
        step s = .next { s with moves := rest, cmd := w, status := .illegalCommand, upc := .idle })

/-- R73: a word of each row, written out from its pattern, decodes to its command. -/
def Obligations.SpecWordsDecode : Prop :=
  decode 0b00000000000000000000000000010001 = .ok (.synth true)
    ∧ decode 0b00000000000000000000000000000010 = .ok .pllCalc
    ∧ decode 0b00000000000000000000000000000011 = .ok .clamp
    ∧ decode 0b00000000000000000000101100000100 = .ok (.setMode 11)
    ∧ decode 0b00000000000000000000000000000101 = .ok .enable
    ∧ decode 0b00000000000000000000000000100110 = .ok (.disable true)

/-- R73, R82: decoding the word of a well-formed command gives the command back. -/
def Obligations.DecodeEncodeRoundTrip : Prop :=
  ∀ i : Instr, i.wellFormed = true → decode (encode i) = .ok i

/-- R73, R78: a word that decodes is the word of the command it decodes to: no bit of it is ignored. -/
def Obligations.EncodeDecodeRoundTrip : Prop :=
  ∀ (w : Word) (i : Instr), decode w = .ok i → i.wellFormed = true ∧ encode i = w

/-- R77, R78: a word is rejected exactly when its `OP` is reserved or a bit reserved for its `OP` is 1, and
that is exactly when no row of R73 spells it. -/
def Obligations.RejectedWordsAreTheReservedOnes : Prop :=
  ∀ w : Word,
    ((∃ e, decode w = .error e) ↔
      (w.toNat % 16 = 0 ∨ 7 ≤ w.toNat % 16
        ∨ (∃ b, (b = 6 ∨ b = 7 ∨ 12 ≤ b) ∧ w.getLsbD b = true)
        ∨ (w.getLsbD 4 = true ∧ w.toNat % 16 ≠ 1)
        ∨ (w.getLsbD 5 = true ∧ w.toNat % 16 ≠ 6)
        ∨ (∃ b, 8 ≤ b ∧ b < 12 ∧ w.getLsbD b = true ∧ w.toNat % 16 ≠ 4)))
    ∧ ((∃ e, decode w = .error e) ↔ ∀ x : Op, w &&& x.mask ≠ x.pattern)

/-! ### The PLL search -/

/-- R108: a result is a legal candidate of least error, and the first such in the order of R101. -/
def Obligations.SearchIsFirstLeastError : Prop :=
  ∀ (fin target : Nat) (e : Bool) (r : PllResult), search fin target e = some r →
    ∃ np1 mp1 div, Claim.Legal fin e np1 mp1 ∧ 1 ≤ div ∧ div ≤ 64
      ∧ r = { n := np1 - 1, m := mp1 - 1, e := e, div := div,
              freq := Claim.output fin e np1 mp1 div,
              err := Claim.distance (Claim.output fin e np1 mp1 div) target }
      ∧ ∀ np1' mp1' div', Claim.Legal fin e np1' mp1' → 1 ≤ div' → div' ≤ 64 →
          r.err ≤ Claim.distance (Claim.output fin e np1' mp1' div') target
          ∧ (Claim.distance (Claim.output fin e np1' mp1' div') target = r.err →
              np1 < np1' ∨ (np1 = np1' ∧ (mp1 < mp1' ∨ (mp1 = mp1' ∧ div ≤ div'))))

/-- R100, R106: there is no result exactly when the input frequency is out of range or no pair is legal;
so for every input frequency from 168 000 007 Hz, and for 20 MHz without the extra divider; at 168 000 006
Hz the phase-detector limit still passes. -/
def Obligations.SearchEmptyExactly : Prop :=
  (∀ (fin target : Nat) (e : Bool), search fin target e = none ↔
      (fin < 12000000 ∨ 192000000 < fin ∨ ∀ np1 mp1, ¬ Claim.Legal fin e np1 mp1))
    ∧ (∀ (fin target : Nat) (e : Bool), 168000007 ≤ fin → fin ≤ 192000000 → search fin target e = none)
    ∧ (∀ target : Nat, search 20000000 target false = none)
    ∧ (∀ target : Nat, search 168000006 target true ≠ none)

/-- R109: the laws of a result; without the extra divider every pair that passes the model's checks has its
VCO frequency within the pre-divider limit, and with it the pre-divider check rejects no pair. -/
def Obligations.SearchResultLaws : Prop :=
  (∀ (fin target : Nat) (e : Bool) (r : PllResult), search fin target e = some r →
      59 ≤ r.n ∧ r.n ≤ 119 ∧ r.m ≤ 6 ∧ r.e = e ∧ 1 ≤ r.div ∧ r.div ≤ 64
      ∧ 12000000 ≤ fin / (r.m + 1) ∧ fin / (r.m + 1) ≤ 24000000
      ∧ 900000000 ≤ fin * (r.n + 1) / (r.m + 1) ∧ fin * (r.n + 1) / (r.m + 1) ≤ 1800000000
      ∧ r.freq = fin * (r.n + 1) / (r.m + 1) / 2 ^ r.e.toNat / 7 / r.div ∧ r.freq ≤ 148500000
      ∧ r.err = Claim.distance r.freq target)
    ∧ (∀ fin np1 mp1 : Nat, legalPair fin false np1 mp1 = true → fvco fin np1 mp1 ≤ 1039500000)
    ∧ (∀ fin np1 mp1 : Nat, fvco fin np1 mp1 ≤ 1800000000 → foutPre true (fvco fin np1 mp1) ≤ 900000000)
    ∧ (∀ fin np1 mp1 : Nat, 900000000 ≤ fvco fin np1 mp1 → fvco fin np1 mp1 ≤ 1800000000 →
        12000000 ≤ fpfd fin mp1 → fpfd fin mp1 ≤ 24000000 → legalPair fin true np1 mp1 = true)

/-- R122: with the extra divider every input frequency from 12 MHz to 168 000 006 Hz has a result, so
`PLL_CALC` has one there. -/
def Obligations.ExtraDividerRunNeverEmpty : Prop :=
  ∀ fin target : Nat, 12000000 ≤ fin → fin ≤ 168000006 →
    search fin target true ≠ none ∧ pllCalcResult fin target ≠ none

/-- R76: for 32-bit operands no field of a result is truncated by `PLLRES`. -/
def Obligations.ResultFitsRegister : Prop :=
  ∀ (fin target : Word) (e : Bool) (r : PllResult), search fin.toNat target.toNat e = some r →
    (toRegister r).n.toNat = r.n ∧ (toRegister r).m.toNat = r.m ∧ (toRegister r).div.toNat = r.div
      ∧ (toRegister r).freq.toNat = r.freq ∧ (toRegister r).err.toNat = r.err
      ∧ r.freq ≤ 148500000 ∧ r.err ≤ max r.freq target.toNat

/-- R121: the selection, case by case. -/
def Obligations.SelectionKeepsSmallerError : Prop :=
  (∀ r1, select none r1 = r1) ∧ (∀ r0, select r0 none = r0)
    ∧ (∀ r0 r1 : PllResult, r1.err < r0.err → select (some r0) (some r1) = some r1)
    ∧ (∀ r0 r1 : PllResult, r0.err ≤ r1.err → select (some r0) (some r1) = some r0)

/-- R122: the result of `PLL_CALC` has the least error over the candidates of both runs, has `E = 0` when
that error is reached without the extra divider, and is missing only when both runs are empty. -/
def Obligations.PllCalcBestOfBothRuns : Prop :=
  (∀ (fin target : Nat) (r : PllResult), pllCalcResult fin target = some r →
      search fin target r.e = some r
      ∧ ∀ (e : Bool) (np1 mp1 div : Nat), Claim.Legal fin e np1 mp1 → 1 ≤ div → div ≤ 64 →
          r.err ≤ Claim.distance (Claim.output fin e np1 mp1 div) target
          ∧ (Claim.distance (Claim.output fin false np1 mp1 div) target = r.err → e = false → r.e = false))
    ∧ (∀ fin target : Nat, pllCalcResult fin target = none ↔
        (search fin target false = none ∧ search fin target true = none))

/-! ### The commands of the search engine, the clamp and the mode -/

/-- R110: `SYNTH` stores the result of one run, or clears `VALID`; nothing else but the command's end changes. -/
def Obligations.SynthStoresResult : Prop :=
  ∀ (e : Bool) (s : State),
    (∀ r, search s.argFin.toNat s.argTarget.toNat e = some r →
      exec (.synth e) s = .next { s with pllRes := some (toRegister r), status := .ok, busy := false, upc := .idle })
    ∧ (search s.argFin.toNat s.argTarget.toNat e = none →
      exec (.synth e) s = .next { s with pllRes := none, status := .invalidConfiguration, busy := false, upc := .idle })

/-- R120: `PLL_CALC` stores the selected result of both runs, or clears `VALID`; nothing else but the
command's end changes. -/
def Obligations.PllCalcStoresSelection : Prop :=
  ∀ s : State,
    (∀ r, select (search s.argFin.toNat s.argTarget.toNat false) (search s.argFin.toNat s.argTarget.toNat true) = some r →
      exec .pllCalc s = .next { s with pllRes := some (toRegister r), status := .ok, busy := false, upc := .idle })
    ∧ (select (search s.argFin.toNat s.argTarget.toNat false) (search s.argFin.toNat s.argTarget.toNat true) = none →
      exec .pllCalc s = .next { s with pllRes := none, status := .invalidConfiguration, busy := false, upc := .idle })

/-- R160: `CLAMP` writes the target, held between the bounds of the generation, and changes nothing else
but the command's end. -/
def Obligations.ClampHoldsTargetInBounds : Prop :=
  ∀ s : State, ∃ w : Word,
    exec .clamp s = .next { s with clampOut := some w, status := .ok, busy := false, upc := .idle }
    ∧ (s.argTarget.toNat < clampMin s.cfg.gen → w.toNat = clampMin s.cfg.gen)
    ∧ (clampMax s.cfg.gen < s.argTarget.toNat → w.toNat = clampMax s.cfg.gen)
    ∧ (clampMin s.cfg.gen ≤ s.argTarget.toNat → s.argTarget.toNat ≤ clampMax s.cfg.gen → w = s.argTarget)

/-- R161: the clamp bounds; 999 000 kHz is clamped down to the maximum. -/
def Obligations.ClampTable : Prop :=
  clampMin .old = 30000 ∧ clampMin .new = 25175
    ∧ ∀ g, clampMin g ≤ clampMax g ∧ clampMax g < 999000 ∧ clampResult g 999000 = clampMax g

/-- R170, R79: `SET_MODE` stores a member of `MODES` and reports any other mode as illegal; nothing else
but the command's end changes, enabled or not. -/
def Obligations.SetModeStoresMember : Prop :=
  ∀ (mode : Nat) (s : State),
    exec (.setMode mode) s = .next
      (if inModes mode = true then { s with mode := BitVec.ofNat 4 mode, status := .ok, busy := false, upc := .idle }
       else { s with status := .illegalCommand, busy := false, upc := .idle })

/-! ### ENABLE -/

/-- R147: `ENABLE` while enabled is a no-op with status `OK`, whatever the target and the mode. -/
def Obligations.EnableWhileEnabledIsNoOp : Prop :=
  ∀ s : State, s.seqState = .enabled →
    exec .enable s = .next { s with status := .ok, busy := false, upc := .idle }

/-- R148: `ENABLE` in `SHARED` from `DISABLED` with no valid result raises `NO_PLL_RESULT` before any event. -/
def Obligations.EnableSharedWithoutResultFaults : Prop :=
  ∀ s : State, s.seqState = .disabled → s.cfg.topo = .shared → s.pllRes = none →
    exec .enable s = .next { s with faulted := some .noPllResult }

/-- R143: when the clock does not start, reset is asserted again and the command ends; no device register
is written and the clock stays as it was. The bookkeeping of the draws is the model's own (log entry 5). -/
def Obligations.EnableClockFailure : Prop :=
  ∀ s : State, s.seqState = .disabled → (s.cfg.topo = .legacy ∨ ∃ r, s.pllRes = some r) →
    clkOutcome s = false →
    exec .enable s = .next
      { s with hist := s.hist ++ [.resetDeassert, .clkEnable false, .resetAssert],
               rst := .asserted, lockKnown := false, status := .clockEnableFailure, busy := false, upc := .idle,
               clkAnswers := s.clkAnswers.tail, clkCount := s.clkCount + 1 }

/-- R140, R141, R146, R197: the legacy power-up runs to its settle delay of 100 to 150 microseconds and
pauses there, still `DISABLED`; what it changes is listed whole. The bookkeeping of the draws and of the
knowledge of the lock is the model's own (log entries 5, 6 and 12). -/
def Obligations.EnableLegacyRunsToSettleDelay : Prop :=
  ∀ s : State, s.seqState = .disabled → s.cfg.topo = .legacy → clkOutcome s = true →
    ∃ t, 100 ≤ t ∧ t ≤ 150 ∧
    exec .enable s = .next
      { s with
        hist := s.hist ++
          [.resetDeassert, .clkEnable true,
           .regWrite (.route (Config.routeValue s.cfg.gen .legacy s.mode)),
           .regWrite (.chan (Config.chanValue s.cfg.gen .legacy)),
           .regWrite (.pll (.legacy (Config.pllDly s.cfg.gen (band s.cfg.gen s.argTarget.toNat))
             (Config.pllOther s.cfg.gen .legacy))),
           .regWrite (.en { bias := true, lvEn := true, pllEn := false, ready := false,
                            other := Config.enOther s.cfg.gen .legacy s.mode }),
           .regWrite (.en { bias := true, lvEn := true, pllEn := true, ready := false,
                            other := Config.enOther s.cfg.gen .legacy s.mode }),
           .delay t],
        rst := .deasserted, clk := .on, timer := .running t, lockKnown := false, busy := true, upc := .enLReady,
        dev := { s.dev with
          route := some (Config.routeValue s.cfg.gen .legacy s.mode),
          chan := some (Config.chanValue s.cfg.gen .legacy),
          pll := some (.legacy (Config.pllDly s.cfg.gen (band s.cfg.gen s.argTarget.toNat))
            (Config.pllOther s.cfg.gen .legacy)),
          en := some { bias := true, lvEn := true, pllEn := true, ready := false,
                       other := Config.enOther s.cfg.gen .legacy s.mode } },
        clkAnswers := s.clkAnswers.tail, clkCount := s.clkCount + 1,
        settleDraws := s.settleDraws.tail, settleCount := s.settleCount + 1 }

/-- R146, R194: from a running settle delay, with no host move or with `wait` moves next, two steps end the
power-up: the timer ends the delay, then `READY` is written and the block is `ENABLED`. That the timer and the
resumption take one step each is the model's own choice (log entry 11); that the PLL's lock is then known is
its inference (log entry 12). -/
def Obligations.SettleDelayEndsEnabled : Prop :=
  ∀ (s : State) (t : Nat) (rest : List Move), s.attached = true → s.faulted = none →
    ((s.moves = [] ∧ rest = []) ∨ (s.moves = [.wait] ∧ rest = []) ∨ s.moves = .wait :: .wait :: rest) →
    s.upc = .enLReady → s.timer = .running t →
    Host.Core.run Sys2Proof.core 2 s = .next
      { s with
        moves := rest,
        hist := s.hist ++ [.regWrite (.en { bias := true, lvEn := true, pllEn := true, ready := true,
                                            other := Config.enOther s.cfg.gen s.cfg.topo s.mode })],
        dev := { s.dev with en := some { bias := true, lvEn := true, pllEn := true, ready := true,
                                         other := Config.enOther s.cfg.gen s.cfg.topo s.mode } },
        timer := .idle, lockKnown := true, seqState := .enabled, status := .ok, busy := false, upc := .idle }

/-- R140, R142, R197: the shared power-up with a valid result, in one step; what it changes is listed whole. The bookkeeping of the draws and of the knowledge of the
lock is the model's own (log entries 5 and 12). -/
def Obligations.EnableSharedPowersUp : Prop :=
  ∀ (s : State) (r : PllRegister), s.seqState = .disabled → s.cfg.topo = .shared → s.pllRes = some r →
    clkOutcome s = true →
    exec .enable s = .next
      { s with
        hist := s.hist ++
          [.resetDeassert, .clkEnable true,
           .regWrite (.route (Config.routeValue s.cfg.gen .shared s.mode)),
           .regWrite (.chan (Config.chanValue s.cfg.gen .shared)),
           .regWrite (.pll (.shared r.n r.m r.e (Config.pllOther s.cfg.gen .shared))),
           .regWrite (.pllDiv r.div),
           .regWrite (.en { bias := false, lvEn := false, pllEn := true, ready := false,
                            other := Config.enOther s.cfg.gen .shared s.mode }),
           .regWrite (.en { bias := false, lvEn := true, pllEn := true, ready := false,
                            other := Config.enOther s.cfg.gen .shared s.mode }),
           .regWrite (.en { bias := false, lvEn := true, pllEn := true, ready := true,
                            other := Config.enOther s.cfg.gen .shared s.mode })],
        rst := .deasserted, clk := .on, lockKnown := true,
        dev :=
          { route := some (Config.routeValue s.cfg.gen .shared s.mode),
            chan := some (Config.chanValue s.cfg.gen .shared),
            pll := some (.shared r.n r.m r.e (Config.pllOther s.cfg.gen .shared)),
            pllDiv := some r.div,
            en := some { bias := false, lvEn := true, pllEn := true, ready := true,
                         other := Config.enOther s.cfg.gen .shared s.mode } },
        seqState := .enabled, status := .ok, busy := false, upc := .idle,
        clkAnswers := s.clkAnswers.tail, clkCount := s.clkCount + 1 }

/-- R145: in `SHARED`, `ENABLE` does not read `ARG_TARGET`: two states that differ there alone give next
states that differ there alone. -/
def Obligations.EnableSharedIgnoresTarget : Prop :=
  ∀ (s t : State) (f : Word), s.cfg.topo = .shared → exec .enable s = .next t →
    exec .enable { s with argTarget := f } = .next { t with argTarget := f }

/-- R144: the bands are half-open, the thresholds strictly increase, a frequency above the fourth one is
still in band 3, and 60 000 kHz on `GEN_OLD` is in the band named `b60`. -/
def Obligations.BandsAreHalfOpen : Prop :=
  (∀ g, bandThresh g 0 < bandThresh g 1 ∧ bandThresh g 1 < bandThresh g 2 ∧ bandThresh g 2 < bandThresh g 3)
    ∧ (∀ g f, (band g f = 0 ↔ f < bandThresh g 0)
        ∧ (band g f = 1 ↔ bandThresh g 0 ≤ f ∧ f < bandThresh g 1)
        ∧ (band g f = 2 ↔ bandThresh g 1 ≤ f ∧ f < bandThresh g 2)
        ∧ (band g f = 3 ↔ bandThresh g 2 ≤ f))
    ∧ (∀ g f, bandThresh g 3 ≤ f → band g f = 3)
    ∧ band .old 60000 = b60

/-! ### DISABLE -/

/-- R150, R153: the teardown, for either topology with the keep flag 0, and in `LEGACY` for either value of
it; `REG_ROUTE` and `REG_PLLDIV` keep their values. -/
def Obligations.DisableTearsDownInOrder : Prop :=
  ∀ (keep : Bool) (s : State), s.seqState = .enabled → (s.cfg.topo = .legacy ∨ keep = false) →
    exec (.disable keep) s = .next
      { s with
        hist := s.hist ++
          [.regWrite (.pll (match s.cfg.topo with | .legacy => .legacy 0 0 | .shared => .shared 0 0 false 0)),
           .regWrite (.chan 0),
           .regWrite (.en { bias := false, lvEn := false, pllEn := false, ready := false, other := 0 }),
           .clkDisable, .resetAssert],
        dev := { s.dev with
          pll := some (match s.cfg.topo with | .legacy => .legacy 0 0 | .shared => .shared 0 0 false 0),
          chan := some 0,
          en := some { bias := false, lvEn := false, pllEn := false, ready := false, other := 0 } },
        clk := .off, rst := .asserted, lockKnown := false,
        seqState := .disabled, status := .ok, busy := false, upc := .idle }

/-- R151: in `SHARED` the keep flag skips the teardown: no event, and the state moves to `DISABLED`, so
that a later `ENABLE` is no no-op; in `LEGACY` the flag is ignored. -/
def Obligations.DisableKeepSkipsTeardown : Prop :=
  (∀ s : State, s.seqState = .enabled → s.cfg.topo = .shared →
      exec (.disable true) s = .next { s with seqState := .disabled, status := .ok, busy := false, upc := .idle })
    ∧ (∀ s : State, s.cfg.topo = .legacy → exec (.disable true) s = exec (.disable false) s)

/-- R152: `DISABLE` while disabled emits nothing, writes nothing and reports `INVALID_CONFIGURATION`. -/
def Obligations.DisableWhileDisabledIsNoOp : Prop :=
  ∀ (keep : Bool) (s : State), s.seqState = .disabled →
    exec (.disable keep) s = .next { s with status := .invalidConfiguration, busy := false, upc := .idle }

/-! ### The register block -/

/-- R196: the commands other than `ENABLE` and `DISABLE` emit no event: history, device registers, lines,
sequencer state and every byte of the register block stay. -/
def Obligations.QuietCommandsTouchNoHardware : Prop :=
  ∀ (i : Instr) (s t : State), i ≠ .enable → (∀ keep, i ≠ .disable keep) → exec i s = .next t →
    t.hist = s.hist ∧ t.dev = s.dev ∧ t.rst = s.rst ∧ t.clk = s.clk ∧ t.timer = s.timer
      ∧ t.lockKnown = s.lockKnown ∧ t.seqState = s.seqState ∧ t.cfg = s.cfg ∧ t.faulted = s.faulted
      ∧ t.cmd = s.cmd ∧ t.argFin = s.argFin ∧ t.argTarget = s.argTarget
      ∧ ∀ a, blockByte t a = blockByte s a

/-- R51, R150, R197, R253: `ENABLE`, `DISABLE`, the resume step and detach store to the words of the
registers they write and leave every other byte of the register block alone. -/
def Obligations.OtherBlockBytesStay : Prop :=
  (∀ (s t : State) (a : Nat), exec .enable s = .next t →
      (∀ r, (r = .route ∨ r = .chan ∨ r = .pll ∨ r = .en ∨ (r = .pllDiv ∧ s.cfg.topo = .shared)) →
        ¬ (regAddress s.cfg r ≤ a ∧ a < regAddress s.cfg r + 4)) →
      blockByte t a = blockByte s a)
    ∧ (∀ (keep : Bool) (s t : State) (a : Nat), exec (.disable keep) s = .next t →
      (∀ r, (r = .pll ∨ r = .chan ∨ r = .en) → ¬ (regAddress s.cfg r ≤ a ∧ a < regAddress s.cfg r + 4)) →
      blockByte t a = blockByte s a)
    ∧ (∀ (s : State) (a : Nat), ¬ (regAddress s.cfg .en ≤ a ∧ a < regAddress s.cfg .en + 4) →
      blockByte (resume s) a = blockByte s a)
    ∧ (∀ (s : State) (a : Nat),
      (∀ r, (r = .pll ∨ r = .chan ∨ r = .en) → ¬ (regAddress s.cfg r ≤ a ∧ a < regAddress s.cfg r + 4)) →
      blockByte (detach s) a = blockByte s a)

/-- R52, R62, R193: after a `REG_WRITE` the word at the register's address is the packed record, and the
words of the other registers are as before. -/
def Obligations.RegisterWriteReadsBack : Prop :=
  ∀ (w : RegWrite) (s : State),
    busWord (emit (.regWrite w) s) (regAddress s.cfg w.reg) = some (pack s.cfg.gen s.cfg.topo w)
    ∧ ∀ a, a ≠ regAddress s.cfg w.reg → busWord (emit (.regWrite w) s) a = busWord s a

/-- R54: the offsets of the five registers are distinct multiples of 4. -/
def Obligations.OffsetsAreDistinctMultiplesOfFour : Prop :=
  ∀ (g : Gen) (t : Topo) (r r' : Reg), offset g t r % 4 = 0 ∧ (offset g t r = offset g t r' → r = r')

/-- R193, D16: the all-zero record packs to 0, and packing loses none of the fields the spec names. That it loses none over every value of the fields'
widths, so that `DIV = 1` does not share the word 0 with the all-zero record, is the model's choice: the spec
leaves the values, and the encoding of `DIV` (R33), open (log entry 14). -/
def Obligations.PackingKeepsZeroAndNamedFields : Prop :=
  (∀ g t, pack g t (.pll (zeroPll t)) = 0 ∧ pack g t (.chan 0) = 0 ∧ pack g t (.route 0) = 0
      ∧ pack g t (.pllDiv 0) = 0 ∧ pack g t (.en zeroEn) = 0)
    ∧ (∀ g t d d' o, pack g t (.pll (.legacy d o)) = pack g t (.pll (.legacy d' o)) → d = d')
    ∧ (∀ g t n m e n' m' e' o, pack g t (.pll (.shared n m e o)) = pack g t (.pll (.shared n' m' e' o)) →
        n = n' ∧ m = m' ∧ e = e')
    ∧ (∀ g t v v', pack g t (.en v) = pack g t (.en v') → v.other = v'.other → v = v')
    ∧ (∀ g t d d', pack g t (.pllDiv d) = pack g t (.pllDiv d') → d = d')
    ∧ (∀ g t v v', pack g t (.chan v) = pack g t (.chan v') → v = v')
    ∧ (∀ g t v v', pack g t (.route v) = pack g t (.route v') → v = v')

/-- R35, R226: a device register reads `UNWRITTEN_READ` after attach, and after a write it reads the record
last written to it, the others being as they were; `PLLRES` with `VALID = 0` reads `UNWRITTEN_READ`. That
"no value" is `none` is the model's own form (log entry 4). -/
def Obligations.UnwrittenReadsFault : Prop :=
  (∀ cfg rst clk r, readDevice r (State.attach cfg rst clk).dev = .error .unwrittenRead)
    ∧ (∀ (d : DeviceRegs) (w : RegWrite), readDevice w.reg (d.write w) = .ok w
        ∧ ∀ r, r ≠ w.reg → readDevice r (d.write w) = readDevice r d)
    ∧ (∀ s : State, s.pllRes = none → readPllRes s = .error .unwrittenRead)

/-! ### The host interface -/

/-- R75, R220: the words the host reads, bit by bit; reading `CLAMP_OUT` before it holds a value raises
`UNWRITTEN_READ`. What the host read goes to the model's own field `hostData` (log entry 9). -/
def Obligations.HostReadsPackedWords : Prop :=
  (∀ s : State, hostWord .status s = some (match s.status with
      | .ok => 0 | .invalidConfiguration => 1 | .clockEnableFailure => 2 | .illegalCommand => 3
      | .resourceUnavailable => 4 | .allocationFailure => 5))
    ∧ (∀ s : State, s.pllRes = none →
        hostWord .pllRes0 s = some 0 ∧ hostWord .pllRes1 s = some 0 ∧ hostWord .pllRes2 s = some 0)
    ∧ (∀ (s : State) (r : PllRegister), s.pllRes = some r →
        hostWord .pllRes1 s = some r.freq ∧ hostWord .pllRes2 s = some r.err
        ∧ ∃ w, hostWord .pllRes0 s = some w ∧ w.getLsbD 0 = true ∧ w.getLsbD 1 = r.e
          ∧ w.extractLsb' 4 3 = r.m ∧ w.extractLsb' 8 7 = r.n ∧ w.extractLsb' 16 7 = r.div
          ∧ w.extractLsb' 2 2 = 0 ∧ w.getLsbD 7 = false ∧ w.getLsbD 15 = false ∧ w.extractLsb' 23 9 = 0)
    ∧ (∀ s : State, ∃ w, hostWord .state s = some w ∧ w.getLsbD 0 = decide (s.seqState = .enabled)
        ∧ w.getLsbD 1 = s.busy ∧ w.extractLsb' 8 4 = s.mode ∧ w.extractLsb' 2 6 = 0 ∧ w.extractLsb' 12 20 = 0)
    ∧ (∀ s : State, hostWord .clampOut s = s.clampOut)
    ∧ (∀ (r : HostReg) (s : State) (rest : List Move), s.attached = true → s.faulted = none →
        s.moves = .read r :: rest →
        (∀ w, hostWord r s = some w → step s = .next { s with moves := rest, hostData := some (.word r w) })
        ∧ (hostWord r s = none → step s = .next { s with moves := rest, faulted := some .unwrittenRead }))

/-- R253: detach tears down an enabled block, whatever its topology: what it changes is listed whole; it
only removes a disabled one; and it faults while busy. That detach is a move, that `STATUS` stays and that a
detached block answers the Lean fault `noBlock` are the model's own choices (log entry 8); the knowledge of
the lock is its own too (log entry 12). -/
def Obligations.DetachLeavesDisabled : Prop :=
  (∀ s : State, s.busy = true → detach s = { s with faulted := some .busyIssue })
    ∧ (∀ s : State, s.busy = false → s.seqState = .disabled → detach s = { s with attached := false })
    ∧ (∀ s : State, s.busy = false → s.seqState = .enabled →
        detach s =
          { s with
            hist := s.hist ++
              [.regWrite (.pll (match s.cfg.topo with | .legacy => .legacy 0 0 | .shared => .shared 0 0 false 0)),
               .regWrite (.chan 0),
               .regWrite (.en { bias := false, lvEn := false, pllEn := false, ready := false, other := 0 }),
               .clkDisable, .resetAssert],
            dev := { s.dev with
              pll := some (match s.cfg.topo with | .legacy => .legacy 0 0 | .shared => .shared 0 0 false 0),
              chan := some 0,
              en := some { bias := false, lvEn := false, pllEn := false, ready := false, other := 0 } },
            clk := .off, rst := .asserted, lockKnown := false,
            seqState := .disabled, upc := .idle, attached := false })
    ∧ (∀ (s : State) (rest : List Move), s.attached = true → s.faulted = none → s.moves = .detach :: rest →
        step s = .next (detach { s with moves := rest }))
    ∧ (∀ s : State, s.attached = false → step s = .fault .noBlock)

/-- R28: the fault mark is clear after attach, is set by `raise`, stops every step, and a faulted state ends
no run. That the step of a stopped block is a Lean fault is the model's own form (log entry 7). -/
def Obligations.FaultMarkIsSticky : Prop :=
  State.reset.faulted = none ∧ (∀ r s, (raise r s).faulted = some r)
    ∧ (∀ (s : State) (r : FaultReason), s.faulted = some r → ∃ f, step s = .fault f)
    ∧ (∀ (s : State) (r : FaultReason) (blocks : List State), s.faulted = some r → s ∈ blocks → ¬ RunEnded blocks)

/-! ### Attach -/

/-- R41: what the spec says a block holds right after attach. The command latch is left out: the spec gives
it no value there, and the model's 0 is its own choice (log entry 3). -/
def Obligations.AttachState : Prop :=
  (∀ cfg rst clk,
      (State.attach cfg rst clk).seqState = .disabled ∧ (State.attach cfg rst clk).mode = Config.modeReset
      ∧ (State.attach cfg rst clk).pllRes = none ∧ (State.attach cfg rst clk).clampOut = none
      ∧ (State.attach cfg rst clk).status = .ok ∧ (State.attach cfg rst clk).busy = false
      ∧ (State.attach cfg rst clk).upc = .idle ∧ (State.attach cfg rst clk).faulted = none
      ∧ (State.attach cfg rst clk).hist = []
      ∧ (State.attach cfg rst clk).dev = { route := none, chan := none, pll := none, pllDiv := none, en := none }
      ∧ (State.attach cfg rst clk).rst = rst ∧ (State.attach cfg rst clk).clk = clk
      ∧ (State.attach cfg rst clk).cfg = cfg)
    ∧ ∃ cfg, cfg.base % 4 = 0 ∧ State.reset = State.attach cfg Config.rstAtAttach Config.clkAtAttach

/-- R57, R251: a lane with memory is attached exactly when its region, aligned to 4, and both handles are
there, and then every register address is a multiple of 4; else attach reports `RESOURCE_UNAVAILABLE`. -/
def Obligations.AttachLaneNeedsResources : Prop :=
  ∀ (rst : ResetLine) (clk : ClockLine) (d : LaneDesc), d.memory = true →
    ((∃ base ch rh, d.region = some base ∧ base % 4 = 0 ∧ d.clkHandle = some ch ∧ d.rstHandle = some rh
        ∧ attachLane rst clk d = .ok (State.attach
            { gen := d.gen, topo := d.topo, lane := d.lane, base := base, clkHandle := ch, rstHandle := rh } rst clk)
        ∧ ∀ r, (base + offset d.gen d.topo r) % 4 = 0)
      ∨ ((d.region = none ∨ d.clkHandle = none ∨ d.rstHandle = none ∨ ∃ base, d.region = some base ∧ base % 4 ≠ 0)
        ∧ attachLane rst clk d = .error .resourceUnavailable))

/-- R252: an allocation failure at any lane leaves no block at all; without one, the blocks are exactly
those of the lanes that could be attached, and none has emitted an event. For a lane that lacks memory and
a resource at once, that memory is checked first is the model's own choice (log entry 18). -/
def Obligations.AllocationFailureLeavesNoBlock : Prop :=
  ∀ (rst : ResetLine) (clk : ClockLine) (ds : List LaneDesc),
    ((∃ d ∈ ds, d.memory = false) → attachAll rst clk ds = .error .allocationFailure)
    ∧ ((∀ d ∈ ds, d.memory = true) → ∃ a, attachAll rst clk ds = .ok a
        ∧ a.blocks = ds.filterMap (fun d => (attachLane rst clk d).toOption)
        ∧ ∀ s ∈ a.blocks, s.hist = [])

/-- R229, R236: a step of one lane changes that lane's block alone, and does with it what `step` does. -/
def Obligations.LanesStepIndependently : Prop :=
  ∀ (k : Nat) (blocks after : List State), stepLane k blocks = .next after →
    after.length = blocks.length ∧ (∀ j, j ≠ k → after[j]? = blocks[j]?)
      ∧ ∃ s t, blocks[k]? = some s ∧ step s = .next t ∧ after[k]? = some t

/-! ### Whole-machine rules -/

/-- The invariant of Safety.lean is kept by every step (R24, R36, R37, R42, R62, R161, R227, R260, R262). Its
clauses that the lock is known while the block is enabled, and once a settle delay has ended, and the rule by
which a history counts as settled, are the model's inference (log entry 12). -/
def Obligations.StepKeepsInvariant : Prop :=
  ∀ s t : State, BlockInv s → step s = .next t → BlockInv t

/-- The invariant holds right after attach, for every launch parameter with an aligned `BASE`, so at reset. -/
def Obligations.AttachMeetsInvariant : Prop :=
  BlockInv State.reset ∧ ∀ cfg rst clk, cfg.base % 4 = 0 → BlockInv (State.attach cfg rst clk)

/-- R42: after any moves of the host and any answers of the clock and the timer, from any attach, a state
that is neither faulted nor busy has: if `ENABLED`, a last `REG_EN` write with `READY = 1`, reset released
and the clock on; if `DISABLED`, no event at all, or `RESET_ASSERT` as the last one, or, in `SHARED`, the
hardware as the power-up before a skipped teardown left it. -/
def Obligations.EveryRunRestsAsR42Says : Prop :=
  ∀ (cfg : BlockConfig) (rst : ResetLine) (clk : ClockLine) (moves : List Move) (oks : List Bool)
    (waits : List (Fin 51)) (n : Nat) (t : State), cfg.base % 4 = 0 →
    Host.Core.run Sys2Proof.core n
      { State.attach cfg rst clk with moves := moves, clkAnswers := oks, settleDraws := waits } = .next t →
    t.faulted = none → t.busy = false →
    (t.seqState = .enabled →
      (∃ v, (t.hist.filterMap (fun ev => match ev with | .regWrite (.en v) => some v | _ => none)).getLast? = some v
        ∧ v.ready = true)
      ∧ t.rst = .deasserted ∧ t.clk = .on)
    ∧ (t.seqState = .disabled →
      t.hist = [] ∨ t.hist.getLast? = some .resetAssert
        ∨ (cfg.topo = .shared ∧ t.rst = .deasserted ∧ t.clk = .on ∧ ∃ v, t.dev.en = some v ∧ v.ready = true))

/-- R227, R260, R262, R194: no run of any host, from any attach, has a register write with the reset asserted
or the clock off, a `READY` before the PLL has settled, or a delay outside 100 to 150 microseconds. That reprogramming or stopping the PLL
unsettles it is the model's inference (log entry 12). -/
def Obligations.EveryRunIsHazardFree : Prop :=
  ∀ (cfg : BlockConfig) (rst : ResetLine) (clk : ClockLine) (moves : List Move) (oks : List Bool)
    (waits : List (Fin 51)) (n : Nat) (t : State), cfg.base % 4 = 0 →
    Host.Core.run Sys2Proof.core n
      { State.attach cfg rst clk with moves := moves, clkAnswers := oks, settleDraws := waits } = .next t →
    HazardFree cfg.topo t.hist

/-- R20, R39: a step never changes the configuration and only ever appends to the history; while a power-up
is paused and stays paused, it appends nothing (R266). -/
def Obligations.HistoryOnlyGrows : Prop :=
  ∀ s t : State, step s = .next t →
    t.cfg = s.cfg ∧ (∃ evs, t.hist = s.hist ++ evs)
      ∧ (s.busy = true → t.busy = true → t.hist = s.hist)

/-- R222: a command that ends with a status other than `OK` changes only `STATUS` and the command's end, but
that a failed search clears `PLLRES` and a clock failure appends its three events and leaves reset asserted. -/
def Obligations.FailedCommandsChangeLittle : Prop :=
  ∀ (i : Instr) (s t : State), exec i s = .next t → t.faulted = none → t.busy = false → t.status ≠ .ok →
    t.dev = s.dev ∧ t.clk = s.clk ∧ t.seqState = s.seqState ∧ t.mode = s.mode ∧ t.clampOut = s.clampOut
      ∧ (t.status ≠ .clockEnableFailure → t.hist = s.hist ∧ t.rst = s.rst)
      ∧ (t.status = .clockEnableFailure →
          t.hist = s.hist ++ [.resetDeassert, .clkEnable false, .resetAssert] ∧ t.rst = .asserted ∧ t.pllRes = s.pllRes)
      ∧ (t.pllRes = s.pllRes ∨ (t.pllRes = none ∧ (i = .pllCalc ∨ ∃ e, i = .synth e)))

/-! ### The other moves of the host, the pause step by step, and the whole platform -/

/-- The host makes no move in the next step: the queue is empty, or `wait` stands in front (log entry 1). -/
def Sys2Proof.Claim.NoHostMove (s : State) (rest : List Move) : Prop :=
  (s.moves = [] ∧ rest = []) ∨ s.moves = .wait :: rest

/-- R29, R63, R70: a host write of `ARG_FIN` or `ARG_TARGET` sets that latch and changes nothing else. It does
so whether the block is busy or not: that is the model's reading (log entry 10). -/
def Obligations.OperandWritesSetOneLatch : Prop :=
  ∀ (s : State) (w : Word) (rest : List Move), s.attached = true → s.faulted = none →
    (s.moves = .writeFin w :: rest → step s = .next { s with moves := rest, argFin := w })
    ∧ (s.moves = .writeTarget w :: rest → step s = .next { s with moves := rest, argTarget := w })

/-- R12, R194, R271: with no host move the step is the timer's or the block's; with neither under way
nothing happens but that a `wait` is used up (the model's own form: log entries 1 and 11). -/
def Obligations.WaitLetsTheMachineAdvance : Prop :=
  ∀ (s : State) (rest : List Move), s.attached = true → s.faulted = none → Claim.NoHostMove s rest →
    step s = .next (advance { s with moves := rest })
    ∧ ((s.upc ≠ .enLReady ∨ s.timer = .idle) → step s = .next { s with moves := rest })

/-- R194: the settle timer's one step ends the delay and enables the resume step: no event, the block still
busy and `DISABLED`. That it is the step without a host move is log entry 11, that the lock is known from then
on log entry 12. -/
def Obligations.TimerStepEndsDelay : Prop :=
  ∀ (s : State) (t : Nat) (rest : List Move), s.attached = true → s.faulted = none → Claim.NoHostMove s rest →
    s.upc = .enLReady → s.timer = .running t →
    step s = .next { s with moves := rest, timer := .ended, lockKnown := true }

/-- R141, R146, R194: once the delay has ended, the resume step writes `READY` and ends the power-up. That it
is the step without a host move is log entry 11, that the written `PLLEN` keeps what is known of the lock in
`LEGACY` log entry 12. -/
def Obligations.ResumeStepEndsPowerUp : Prop :=
  ∀ (s : State) (rest : List Move), s.attached = true → s.faulted = none → Claim.NoHostMove s rest →
    s.cfg.topo = .legacy → s.upc = .enLReady → s.timer = .ended →
    step s = .next
      { s with
        moves := rest,
        hist := s.hist ++ [.regWrite (.en { bias := true, lvEn := true, pllEn := true, ready := true,
                                            other := Config.enOther s.cfg.gen .legacy s.mode })],
        dev := { s.dev with en := some { bias := true, lvEn := true, pllEn := true, ready := true,
                                         other := Config.enOther s.cfg.gen .legacy s.mode } },
        timer := .idle, seqState := .enabled, status := .ok, busy := false, upc := .idle }

/-- R11, R58, R63, R146, R255: a host read and a write of an operand latch leave a pause, and everything
else, as it is. That an operand latch may be written in a pause is the model's reading (log entry 10). Beside
the queue these moves change an operand latch, what the host has read (log entry 9), or, for
a read of `CLAMP_OUT` while it holds no value, the fault mark. -/
def Obligations.ReadsAndOperandWritesKeepThePause : Prop :=
  ∀ (s : State) (m : Move) (rest : List Move), s.attached = true → s.faulted = none → s.moves = m :: rest →
    ((∃ w, m = .writeFin w) ∨ (∃ w, m = .writeTarget w) ∨ (∃ r, m = .read r) ∨ m = .readPllRes) →
    ∃ fin target data fault,
      step s = .next { s with moves := rest, argFin := fin, argTarget := target, hostData := data, faulted := fault }
      ∧ (fault = none ∨ (m = .read .clampOut ∧ s.clampOut = none ∧ fault = some .unwrittenRead))

/-- R58, R75: one host read of `PLLRES` gives all its fields as they stand at that moment, busy or not: the
words that reads of `PLLRES0`, `PLLRES1` and `PLLRES2` would each give then. Where they go is the model's own
field `hostData` (log entry 9). -/
def Obligations.PllResIsReadAtOnce : Prop :=
  ∀ (s : State) (rest : List Move), s.attached = true → s.faulted = none → s.moves = .readPllRes :: rest →
    ∃ w0 w1 w2, hostWord .pllRes0 s = some w0 ∧ hostWord .pllRes1 s = some w1 ∧ hostWord .pllRes2 s = some w2
      ∧ step s = .next { s with moves := rest, hostData := some (.pllRes w0 w1 w2) }

/-- R272: a run of several lanes has ended exactly when at every lane the host has no move left, `BUSY` is 0
and `FAULTED` is none; one lane that is paused, faulted or still to be served keeps it going. What the ended
run shows is, for every lane, the nine items of R272. R272 speaks of the last command: that a move of another
kind still to come holds the run open too is the model's choice (log entry 27). -/
def Obligations.RunEndsWhenEveryLaneRests : Prop :=
  (∀ blocks : List State, RunEnded blocks ↔
      ∀ (k : Nat) (s : State), blocks[k]? = some s → s.moves = [] ∧ s.busy = false ∧ s.faulted = none)
    ∧ (∀ (blocks : List State) (k : Nat) (s : State), blocks[k]? = some s → Paused s → ¬ RunEnded blocks)
    ∧ (∀ (blocks : List State) (k : Nat) (s : State), blocks[k]? = some s →
        (observeRun blocks)[k]? = some
          { hist := s.hist, seqState := s.seqState, mode := s.mode, pllRes := s.pllRes, clampOut := s.clampOut,
            status := s.status, rst := s.rst, clk := s.clk, dev := s.dev })

/-- R42, R62, R229, R272: whatever the schedule of the lanes, a run of the platform keeps the invariant of
every block, and once it has ended every block that is `ENABLED` has its output powered, and every one that is
`DISABLED` has no event, or `RESET_ASSERT` as its last one, or, in `SHARED`, the hardware powered after a
skipped teardown. The invariant's clauses about the lock are the model's inference (log entry 12); that a run
ends only with no host move of any kind left is its choice (log entry 27). -/
def Obligations.PlatformRunKeepsEveryInvariant : Prop :=
  ∀ (schedule : List Nat) (blocks after : List State), (∀ s ∈ blocks, BlockInv s) →
    runLanes schedule blocks = .next after →
    (∀ s ∈ after, BlockInv s)
    ∧ (RunEnded after → ∀ s ∈ after,
        (s.seqState = .enabled → Powered s ∧ s.rst = .deasserted ∧ s.clk = .on)
        ∧ (s.seqState = .disabled →
            s.hist = [] ∨ s.hist.getLast? = some .resetAssert ∨ (s.cfg.topo = .shared ∧ Powered s)))
end

