-- ==== Sys2Proof/Laws/State.lean ====
section
/-! SUPPORT. The fields of a state after each shared update: one lemma per field per update. -/

namespace Sys2Proof.Machine

/-! ### Ending a command writes `STATUS`, `BUSY` and `UPC` -/

@[simp] theorem finish_cfg (st : Status) (s : State) : (finish st s).cfg = s.cfg := rfl
@[simp] theorem finish_attached (st : Status) (s : State) : (finish st s).attached = s.attached := rfl
@[simp] theorem finish_seqState (st : Status) (s : State) : (finish st s).seqState = s.seqState := rfl
@[simp] theorem finish_mode (st : Status) (s : State) : (finish st s).mode = s.mode := rfl
@[simp] theorem finish_pllRes (st : Status) (s : State) : (finish st s).pllRes = s.pllRes := rfl
@[simp] theorem finish_clampOut (st : Status) (s : State) : (finish st s).clampOut = s.clampOut := rfl
@[simp] theorem finish_status (st : Status) (s : State) : (finish st s).status = st := rfl
@[simp] theorem finish_busy (st : Status) (s : State) : (finish st s).busy = false := rfl
@[simp] theorem finish_upc (st : Status) (s : State) : (finish st s).upc = .idle := rfl
@[simp] theorem finish_faulted (st : Status) (s : State) : (finish st s).faulted = s.faulted := rfl
@[simp] theorem finish_cmd (st : Status) (s : State) : (finish st s).cmd = s.cmd := rfl
@[simp] theorem finish_argFin (st : Status) (s : State) : (finish st s).argFin = s.argFin := rfl
@[simp] theorem finish_argTarget (st : Status) (s : State) : (finish st s).argTarget = s.argTarget := rfl
@[simp] theorem finish_hist (st : Status) (s : State) : (finish st s).hist = s.hist := rfl
@[simp] theorem finish_dev (st : Status) (s : State) : (finish st s).dev = s.dev := rfl
@[simp] theorem finish_rst (st : Status) (s : State) : (finish st s).rst = s.rst := rfl
@[simp] theorem finish_clk (st : Status) (s : State) : (finish st s).clk = s.clk := rfl
@[simp] theorem finish_timer (st : Status) (s : State) : (finish st s).timer = s.timer := rfl
@[simp] theorem finish_lockKnown (st : Status) (s : State) : (finish st s).lockKnown = s.lockKnown := rfl
@[simp] theorem finish_moves (st : Status) (s : State) : (finish st s).moves = s.moves := rfl
@[simp] theorem finish_clkAnswers (st : Status) (s : State) : (finish st s).clkAnswers = s.clkAnswers := rfl
@[simp] theorem finish_clkCount (st : Status) (s : State) : (finish st s).clkCount = s.clkCount := rfl
@[simp] theorem finish_settleDraws (st : Status) (s : State) : (finish st s).settleDraws = s.settleDraws := rfl
@[simp] theorem finish_settleCount (st : Status) (s : State) : (finish st s).settleCount = s.settleCount := rfl
@[simp] theorem finish_hostData (st : Status) (s : State) : (finish st s).hostData = s.hostData := rfl

/-! ### Raising a fault writes the fault mark -/

@[simp] theorem raise_cfg (r : FaultReason) (s : State) : (raise r s).cfg = s.cfg := rfl
@[simp] theorem raise_attached (r : FaultReason) (s : State) : (raise r s).attached = s.attached := rfl
@[simp] theorem raise_seqState (r : FaultReason) (s : State) : (raise r s).seqState = s.seqState := rfl
@[simp] theorem raise_mode (r : FaultReason) (s : State) : (raise r s).mode = s.mode := rfl
@[simp] theorem raise_pllRes (r : FaultReason) (s : State) : (raise r s).pllRes = s.pllRes := rfl
@[simp] theorem raise_clampOut (r : FaultReason) (s : State) : (raise r s).clampOut = s.clampOut := rfl
@[simp] theorem raise_status (r : FaultReason) (s : State) : (raise r s).status = s.status := rfl
@[simp] theorem raise_busy (r : FaultReason) (s : State) : (raise r s).busy = s.busy := rfl
@[simp] theorem raise_upc (r : FaultReason) (s : State) : (raise r s).upc = s.upc := rfl
@[simp] theorem raise_faulted (r : FaultReason) (s : State) : (raise r s).faulted = some r := rfl
@[simp] theorem raise_cmd (r : FaultReason) (s : State) : (raise r s).cmd = s.cmd := rfl
@[simp] theorem raise_argFin (r : FaultReason) (s : State) : (raise r s).argFin = s.argFin := rfl
@[simp] theorem raise_argTarget (r : FaultReason) (s : State) : (raise r s).argTarget = s.argTarget := rfl
@[simp] theorem raise_hist (r : FaultReason) (s : State) : (raise r s).hist = s.hist := rfl
@[simp] theorem raise_dev (r : FaultReason) (s : State) : (raise r s).dev = s.dev := rfl
@[simp] theorem raise_rst (r : FaultReason) (s : State) : (raise r s).rst = s.rst := rfl
@[simp] theorem raise_clk (r : FaultReason) (s : State) : (raise r s).clk = s.clk := rfl
@[simp] theorem raise_timer (r : FaultReason) (s : State) : (raise r s).timer = s.timer := rfl
@[simp] theorem raise_lockKnown (r : FaultReason) (s : State) : (raise r s).lockKnown = s.lockKnown := rfl
@[simp] theorem raise_moves (r : FaultReason) (s : State) : (raise r s).moves = s.moves := rfl
@[simp] theorem raise_clkAnswers (r : FaultReason) (s : State) : (raise r s).clkAnswers = s.clkAnswers := rfl
@[simp] theorem raise_clkCount (r : FaultReason) (s : State) : (raise r s).clkCount = s.clkCount := rfl
@[simp] theorem raise_settleDraws (r : FaultReason) (s : State) : (raise r s).settleDraws = s.settleDraws := rfl
@[simp] theorem raise_settleCount (r : FaultReason) (s : State) : (raise r s).settleCount = s.settleCount := rfl
@[simp] theorem raise_hostData (r : FaultReason) (s : State) : (raise r s).hostData = s.hostData := rfl

/-! ### Latching a command writes `CMD` and `BUSY` -/

@[simp] theorem latch_cfg (w : Word) (s : State) : (latch w s).cfg = s.cfg := rfl
@[simp] theorem latch_attached (w : Word) (s : State) : (latch w s).attached = s.attached := rfl
@[simp] theorem latch_seqState (w : Word) (s : State) : (latch w s).seqState = s.seqState := rfl
@[simp] theorem latch_mode (w : Word) (s : State) : (latch w s).mode = s.mode := rfl
@[simp] theorem latch_pllRes (w : Word) (s : State) : (latch w s).pllRes = s.pllRes := rfl
@[simp] theorem latch_clampOut (w : Word) (s : State) : (latch w s).clampOut = s.clampOut := rfl
@[simp] theorem latch_status (w : Word) (s : State) : (latch w s).status = s.status := rfl
@[simp] theorem latch_busy (w : Word) (s : State) : (latch w s).busy = true := rfl
@[simp] theorem latch_upc (w : Word) (s : State) : (latch w s).upc = s.upc := rfl
@[simp] theorem latch_faulted (w : Word) (s : State) : (latch w s).faulted = s.faulted := rfl
@[simp] theorem latch_cmd (w : Word) (s : State) : (latch w s).cmd = w := rfl
@[simp] theorem latch_argFin (w : Word) (s : State) : (latch w s).argFin = s.argFin := rfl
@[simp] theorem latch_argTarget (w : Word) (s : State) : (latch w s).argTarget = s.argTarget := rfl
@[simp] theorem latch_hist (w : Word) (s : State) : (latch w s).hist = s.hist := rfl
@[simp] theorem latch_dev (w : Word) (s : State) : (latch w s).dev = s.dev := rfl
@[simp] theorem latch_rst (w : Word) (s : State) : (latch w s).rst = s.rst := rfl
@[simp] theorem latch_clk (w : Word) (s : State) : (latch w s).clk = s.clk := rfl
@[simp] theorem latch_timer (w : Word) (s : State) : (latch w s).timer = s.timer := rfl
@[simp] theorem latch_lockKnown (w : Word) (s : State) : (latch w s).lockKnown = s.lockKnown := rfl
@[simp] theorem latch_moves (w : Word) (s : State) : (latch w s).moves = s.moves := rfl
@[simp] theorem latch_clkAnswers (w : Word) (s : State) : (latch w s).clkAnswers = s.clkAnswers := rfl
@[simp] theorem latch_clkCount (w : Word) (s : State) : (latch w s).clkCount = s.clkCount := rfl
@[simp] theorem latch_settleDraws (w : Word) (s : State) : (latch w s).settleDraws = s.settleDraws := rfl
@[simp] theorem latch_settleCount (w : Word) (s : State) : (latch w s).settleCount = s.settleCount := rfl
@[simp] theorem latch_hostData (w : Word) (s : State) : (latch w s).hostData = s.hostData := rfl

/-! ### Using a clock answer -/

@[simp] theorem consumeClk_cfg (s : State) : (consumeClk s).cfg = s.cfg := rfl
@[simp] theorem consumeClk_attached (s : State) : (consumeClk s).attached = s.attached := rfl
@[simp] theorem consumeClk_seqState (s : State) : (consumeClk s).seqState = s.seqState := rfl
@[simp] theorem consumeClk_mode (s : State) : (consumeClk s).mode = s.mode := rfl
@[simp] theorem consumeClk_pllRes (s : State) : (consumeClk s).pllRes = s.pllRes := rfl
@[simp] theorem consumeClk_clampOut (s : State) : (consumeClk s).clampOut = s.clampOut := rfl
@[simp] theorem consumeClk_status (s : State) : (consumeClk s).status = s.status := rfl
@[simp] theorem consumeClk_busy (s : State) : (consumeClk s).busy = s.busy := rfl
@[simp] theorem consumeClk_upc (s : State) : (consumeClk s).upc = s.upc := rfl
@[simp] theorem consumeClk_faulted (s : State) : (consumeClk s).faulted = s.faulted := rfl
@[simp] theorem consumeClk_cmd (s : State) : (consumeClk s).cmd = s.cmd := rfl
@[simp] theorem consumeClk_argFin (s : State) : (consumeClk s).argFin = s.argFin := rfl
@[simp] theorem consumeClk_argTarget (s : State) : (consumeClk s).argTarget = s.argTarget := rfl
@[simp] theorem consumeClk_hist (s : State) : (consumeClk s).hist = s.hist := rfl
@[simp] theorem consumeClk_dev (s : State) : (consumeClk s).dev = s.dev := rfl
@[simp] theorem consumeClk_rst (s : State) : (consumeClk s).rst = s.rst := rfl
@[simp] theorem consumeClk_clk (s : State) : (consumeClk s).clk = s.clk := rfl
@[simp] theorem consumeClk_timer (s : State) : (consumeClk s).timer = s.timer := rfl
@[simp] theorem consumeClk_lockKnown (s : State) : (consumeClk s).lockKnown = s.lockKnown := rfl
@[simp] theorem consumeClk_moves (s : State) : (consumeClk s).moves = s.moves := rfl
@[simp] theorem consumeClk_clkAnswers (s : State) : (consumeClk s).clkAnswers = s.clkAnswers.tail := rfl
@[simp] theorem consumeClk_clkCount (s : State) : (consumeClk s).clkCount = s.clkCount + 1 := rfl
@[simp] theorem consumeClk_settleDraws (s : State) : (consumeClk s).settleDraws = s.settleDraws := rfl
@[simp] theorem consumeClk_settleCount (s : State) : (consumeClk s).settleCount = s.settleCount := rfl
@[simp] theorem consumeClk_hostData (s : State) : (consumeClk s).hostData = s.hostData := rfl

/-! ### Using a settle duration -/

@[simp] theorem consumeSettle_cfg (s : State) : (consumeSettle s).cfg = s.cfg := rfl
@[simp] theorem consumeSettle_attached (s : State) : (consumeSettle s).attached = s.attached := rfl
@[simp] theorem consumeSettle_seqState (s : State) : (consumeSettle s).seqState = s.seqState := rfl
@[simp] theorem consumeSettle_mode (s : State) : (consumeSettle s).mode = s.mode := rfl
@[simp] theorem consumeSettle_pllRes (s : State) : (consumeSettle s).pllRes = s.pllRes := rfl
@[simp] theorem consumeSettle_clampOut (s : State) : (consumeSettle s).clampOut = s.clampOut := rfl
@[simp] theorem consumeSettle_status (s : State) : (consumeSettle s).status = s.status := rfl
@[simp] theorem consumeSettle_busy (s : State) : (consumeSettle s).busy = s.busy := rfl
@[simp] theorem consumeSettle_upc (s : State) : (consumeSettle s).upc = s.upc := rfl
@[simp] theorem consumeSettle_faulted (s : State) : (consumeSettle s).faulted = s.faulted := rfl
@[simp] theorem consumeSettle_cmd (s : State) : (consumeSettle s).cmd = s.cmd := rfl
@[simp] theorem consumeSettle_argFin (s : State) : (consumeSettle s).argFin = s.argFin := rfl
@[simp] theorem consumeSettle_argTarget (s : State) : (consumeSettle s).argTarget = s.argTarget := rfl
@[simp] theorem consumeSettle_hist (s : State) : (consumeSettle s).hist = s.hist := rfl
@[simp] theorem consumeSettle_dev (s : State) : (consumeSettle s).dev = s.dev := rfl
@[simp] theorem consumeSettle_rst (s : State) : (consumeSettle s).rst = s.rst := rfl
@[simp] theorem consumeSettle_clk (s : State) : (consumeSettle s).clk = s.clk := rfl
@[simp] theorem consumeSettle_timer (s : State) : (consumeSettle s).timer = s.timer := rfl
@[simp] theorem consumeSettle_lockKnown (s : State) : (consumeSettle s).lockKnown = s.lockKnown := rfl
@[simp] theorem consumeSettle_moves (s : State) : (consumeSettle s).moves = s.moves := rfl
@[simp] theorem consumeSettle_clkAnswers (s : State) : (consumeSettle s).clkAnswers = s.clkAnswers := rfl
@[simp] theorem consumeSettle_clkCount (s : State) : (consumeSettle s).clkCount = s.clkCount := rfl
@[simp] theorem consumeSettle_settleDraws (s : State) : (consumeSettle s).settleDraws = s.settleDraws.tail := rfl
@[simp] theorem consumeSettle_settleCount (s : State) : (consumeSettle s).settleCount = s.settleCount + 1 := rfl
@[simp] theorem consumeSettle_hostData (s : State) : (consumeSettle s).hostData = s.hostData := rfl

/-! ### The settle timer's step -/

@[simp] theorem endSettle_cfg (s : State) : (endSettle s).cfg = s.cfg := rfl
@[simp] theorem endSettle_attached (s : State) : (endSettle s).attached = s.attached := rfl
@[simp] theorem endSettle_seqState (s : State) : (endSettle s).seqState = s.seqState := rfl
@[simp] theorem endSettle_mode (s : State) : (endSettle s).mode = s.mode := rfl
@[simp] theorem endSettle_pllRes (s : State) : (endSettle s).pllRes = s.pllRes := rfl
@[simp] theorem endSettle_clampOut (s : State) : (endSettle s).clampOut = s.clampOut := rfl
@[simp] theorem endSettle_status (s : State) : (endSettle s).status = s.status := rfl
@[simp] theorem endSettle_busy (s : State) : (endSettle s).busy = s.busy := rfl
@[simp] theorem endSettle_upc (s : State) : (endSettle s).upc = s.upc := rfl
@[simp] theorem endSettle_faulted (s : State) : (endSettle s).faulted = s.faulted := rfl
@[simp] theorem endSettle_cmd (s : State) : (endSettle s).cmd = s.cmd := rfl
@[simp] theorem endSettle_argFin (s : State) : (endSettle s).argFin = s.argFin := rfl
@[simp] theorem endSettle_argTarget (s : State) : (endSettle s).argTarget = s.argTarget := rfl
@[simp] theorem endSettle_hist (s : State) : (endSettle s).hist = s.hist := rfl
@[simp] theorem endSettle_dev (s : State) : (endSettle s).dev = s.dev := rfl
@[simp] theorem endSettle_rst (s : State) : (endSettle s).rst = s.rst := rfl
@[simp] theorem endSettle_clk (s : State) : (endSettle s).clk = s.clk := rfl
@[simp] theorem endSettle_timer (s : State) : (endSettle s).timer = .ended := rfl
@[simp] theorem endSettle_lockKnown (s : State) : (endSettle s).lockKnown = true := rfl
@[simp] theorem endSettle_moves (s : State) : (endSettle s).moves = s.moves := rfl
@[simp] theorem endSettle_clkAnswers (s : State) : (endSettle s).clkAnswers = s.clkAnswers := rfl
@[simp] theorem endSettle_clkCount (s : State) : (endSettle s).clkCount = s.clkCount := rfl
@[simp] theorem endSettle_settleDraws (s : State) : (endSettle s).settleDraws = s.settleDraws := rfl
@[simp] theorem endSettle_settleCount (s : State) : (endSettle s).settleCount = s.settleCount := rfl
@[simp] theorem endSettle_hostData (s : State) : (endSettle s).hostData = s.hostData := rfl

/-! ### The host's read of `PLLRES` -/

@[simp] theorem hostReadPllRes_cfg (s : State) : (hostReadPllRes s).cfg = s.cfg := rfl
@[simp] theorem hostReadPllRes_attached (s : State) : (hostReadPllRes s).attached = s.attached := rfl
@[simp] theorem hostReadPllRes_seqState (s : State) : (hostReadPllRes s).seqState = s.seqState := rfl
@[simp] theorem hostReadPllRes_mode (s : State) : (hostReadPllRes s).mode = s.mode := rfl
@[simp] theorem hostReadPllRes_pllRes (s : State) : (hostReadPllRes s).pllRes = s.pllRes := rfl
@[simp] theorem hostReadPllRes_clampOut (s : State) : (hostReadPllRes s).clampOut = s.clampOut := rfl
@[simp] theorem hostReadPllRes_status (s : State) : (hostReadPllRes s).status = s.status := rfl
@[simp] theorem hostReadPllRes_busy (s : State) : (hostReadPllRes s).busy = s.busy := rfl
@[simp] theorem hostReadPllRes_upc (s : State) : (hostReadPllRes s).upc = s.upc := rfl
@[simp] theorem hostReadPllRes_faulted (s : State) : (hostReadPllRes s).faulted = s.faulted := rfl
@[simp] theorem hostReadPllRes_cmd (s : State) : (hostReadPllRes s).cmd = s.cmd := rfl
@[simp] theorem hostReadPllRes_argFin (s : State) : (hostReadPllRes s).argFin = s.argFin := rfl
@[simp] theorem hostReadPllRes_argTarget (s : State) : (hostReadPllRes s).argTarget = s.argTarget := rfl
@[simp] theorem hostReadPllRes_hist (s : State) : (hostReadPllRes s).hist = s.hist := rfl
@[simp] theorem hostReadPllRes_dev (s : State) : (hostReadPllRes s).dev = s.dev := rfl
@[simp] theorem hostReadPllRes_rst (s : State) : (hostReadPllRes s).rst = s.rst := rfl
@[simp] theorem hostReadPllRes_clk (s : State) : (hostReadPllRes s).clk = s.clk := rfl
@[simp] theorem hostReadPllRes_timer (s : State) : (hostReadPllRes s).timer = s.timer := rfl
@[simp] theorem hostReadPllRes_lockKnown (s : State) : (hostReadPllRes s).lockKnown = s.lockKnown := rfl
@[simp] theorem hostReadPllRes_moves (s : State) : (hostReadPllRes s).moves = s.moves := rfl
@[simp] theorem hostReadPllRes_clkAnswers (s : State) : (hostReadPllRes s).clkAnswers = s.clkAnswers := rfl
@[simp] theorem hostReadPllRes_clkCount (s : State) : (hostReadPllRes s).clkCount = s.clkCount := rfl
@[simp] theorem hostReadPllRes_settleDraws (s : State) : (hostReadPllRes s).settleDraws = s.settleDraws := rfl
@[simp] theorem hostReadPllRes_settleCount (s : State) : (hostReadPllRes s).settleCount = s.settleCount := rfl
@[simp] theorem hostReadPllRes_hostData (s : State) : (hostReadPllRes s).hostData = some (.pllRes (pllRes0Word s.pllRes) (pllRes1Word s.pllRes) (pllRes2Word s.pllRes)) := rfl

/-! ### Placing a command in front of the queue -/

@[simp] theorem withCommand_cfg (s : State) (w : Word) : (withCommand s w).cfg = s.cfg := rfl
@[simp] theorem withCommand_attached (s : State) (w : Word) : (withCommand s w).attached = s.attached := rfl
@[simp] theorem withCommand_seqState (s : State) (w : Word) : (withCommand s w).seqState = s.seqState := rfl
@[simp] theorem withCommand_mode (s : State) (w : Word) : (withCommand s w).mode = s.mode := rfl
@[simp] theorem withCommand_pllRes (s : State) (w : Word) : (withCommand s w).pllRes = s.pllRes := rfl
@[simp] theorem withCommand_clampOut (s : State) (w : Word) : (withCommand s w).clampOut = s.clampOut := rfl
@[simp] theorem withCommand_status (s : State) (w : Word) : (withCommand s w).status = s.status := rfl
@[simp] theorem withCommand_busy (s : State) (w : Word) : (withCommand s w).busy = s.busy := rfl
@[simp] theorem withCommand_upc (s : State) (w : Word) : (withCommand s w).upc = s.upc := rfl
@[simp] theorem withCommand_faulted (s : State) (w : Word) : (withCommand s w).faulted = s.faulted := rfl
@[simp] theorem withCommand_cmd (s : State) (w : Word) : (withCommand s w).cmd = s.cmd := rfl
@[simp] theorem withCommand_argFin (s : State) (w : Word) : (withCommand s w).argFin = s.argFin := rfl
@[simp] theorem withCommand_argTarget (s : State) (w : Word) : (withCommand s w).argTarget = s.argTarget := rfl
@[simp] theorem withCommand_hist (s : State) (w : Word) : (withCommand s w).hist = s.hist := rfl
@[simp] theorem withCommand_dev (s : State) (w : Word) : (withCommand s w).dev = s.dev := rfl
@[simp] theorem withCommand_rst (s : State) (w : Word) : (withCommand s w).rst = s.rst := rfl
@[simp] theorem withCommand_clk (s : State) (w : Word) : (withCommand s w).clk = s.clk := rfl
@[simp] theorem withCommand_timer (s : State) (w : Word) : (withCommand s w).timer = s.timer := rfl
@[simp] theorem withCommand_lockKnown (s : State) (w : Word) : (withCommand s w).lockKnown = s.lockKnown := rfl
@[simp] theorem withCommand_moves (s : State) (w : Word) : (withCommand s w).moves = .writeCmd w :: s.moves := rfl
@[simp] theorem withCommand_clkAnswers (s : State) (w : Word) : (withCommand s w).clkAnswers = s.clkAnswers := rfl
@[simp] theorem withCommand_clkCount (s : State) (w : Word) : (withCommand s w).clkCount = s.clkCount := rfl
@[simp] theorem withCommand_settleDraws (s : State) (w : Word) : (withCommand s w).settleDraws = s.settleDraws := rfl
@[simp] theorem withCommand_settleCount (s : State) (w : Word) : (withCommand s w).settleCount = s.settleCount := rfl
@[simp] theorem withCommand_hostData (s : State) (w : Word) : (withCommand s w).hostData = s.hostData := rfl

/-! ### An event leaves every field but `BUSY`, `HIST`, the device registers, the lines, the timer and the lock -/

@[simp] theorem perform_cfg (ev : Event) (s : State) : (perform ev s).cfg = s.cfg := by cases ev <;> rfl
@[simp] theorem perform_attached (ev : Event) (s : State) : (perform ev s).attached = s.attached := by cases ev <;> rfl
@[simp] theorem perform_seqState (ev : Event) (s : State) : (perform ev s).seqState = s.seqState := by cases ev <;> rfl
@[simp] theorem perform_mode (ev : Event) (s : State) : (perform ev s).mode = s.mode := by cases ev <;> rfl
@[simp] theorem perform_pllRes (ev : Event) (s : State) : (perform ev s).pllRes = s.pllRes := by cases ev <;> rfl
@[simp] theorem perform_clampOut (ev : Event) (s : State) : (perform ev s).clampOut = s.clampOut := by cases ev <;> rfl
@[simp] theorem perform_status (ev : Event) (s : State) : (perform ev s).status = s.status := by cases ev <;> rfl
@[simp] theorem perform_upc (ev : Event) (s : State) : (perform ev s).upc = s.upc := by cases ev <;> rfl
@[simp] theorem perform_faulted (ev : Event) (s : State) : (perform ev s).faulted = s.faulted := by cases ev <;> rfl
@[simp] theorem perform_cmd (ev : Event) (s : State) : (perform ev s).cmd = s.cmd := by cases ev <;> rfl
@[simp] theorem perform_argFin (ev : Event) (s : State) : (perform ev s).argFin = s.argFin := by cases ev <;> rfl
@[simp] theorem perform_argTarget (ev : Event) (s : State) : (perform ev s).argTarget = s.argTarget := by cases ev <;> rfl
@[simp] theorem perform_moves (ev : Event) (s : State) : (perform ev s).moves = s.moves := by cases ev <;> rfl
@[simp] theorem perform_clkAnswers (ev : Event) (s : State) : (perform ev s).clkAnswers = s.clkAnswers := by cases ev <;> rfl
@[simp] theorem perform_clkCount (ev : Event) (s : State) : (perform ev s).clkCount = s.clkCount := by cases ev <;> rfl
@[simp] theorem perform_settleDraws (ev : Event) (s : State) : (perform ev s).settleDraws = s.settleDraws := by cases ev <;> rfl
@[simp] theorem perform_settleCount (ev : Event) (s : State) : (perform ev s).settleCount = s.settleCount := by cases ev <;> rfl
@[simp] theorem perform_hostData (ev : Event) (s : State) : (perform ev s).hostData = s.hostData := by cases ev <;> rfl
@[simp] theorem perform_hist (ev : Event) (s : State) : (perform ev s).hist = s.hist := by cases ev <;> rfl

@[simp] theorem emit_cfg (ev : Event) (s : State) : (emit ev s).cfg = s.cfg := by cases ev <;> rfl
@[simp] theorem emit_attached (ev : Event) (s : State) : (emit ev s).attached = s.attached := by cases ev <;> rfl
@[simp] theorem emit_seqState (ev : Event) (s : State) : (emit ev s).seqState = s.seqState := by cases ev <;> rfl
@[simp] theorem emit_mode (ev : Event) (s : State) : (emit ev s).mode = s.mode := by cases ev <;> rfl
@[simp] theorem emit_pllRes (ev : Event) (s : State) : (emit ev s).pllRes = s.pllRes := by cases ev <;> rfl
@[simp] theorem emit_clampOut (ev : Event) (s : State) : (emit ev s).clampOut = s.clampOut := by cases ev <;> rfl
@[simp] theorem emit_status (ev : Event) (s : State) : (emit ev s).status = s.status := by cases ev <;> rfl
@[simp] theorem emit_upc (ev : Event) (s : State) : (emit ev s).upc = s.upc := by cases ev <;> rfl
@[simp] theorem emit_faulted (ev : Event) (s : State) : (emit ev s).faulted = s.faulted := by cases ev <;> rfl
@[simp] theorem emit_cmd (ev : Event) (s : State) : (emit ev s).cmd = s.cmd := by cases ev <;> rfl
@[simp] theorem emit_argFin (ev : Event) (s : State) : (emit ev s).argFin = s.argFin := by cases ev <;> rfl
@[simp] theorem emit_argTarget (ev : Event) (s : State) : (emit ev s).argTarget = s.argTarget := by cases ev <;> rfl
@[simp] theorem emit_moves (ev : Event) (s : State) : (emit ev s).moves = s.moves := by cases ev <;> rfl
@[simp] theorem emit_clkAnswers (ev : Event) (s : State) : (emit ev s).clkAnswers = s.clkAnswers := by cases ev <;> rfl
@[simp] theorem emit_clkCount (ev : Event) (s : State) : (emit ev s).clkCount = s.clkCount := by cases ev <;> rfl
@[simp] theorem emit_settleDraws (ev : Event) (s : State) : (emit ev s).settleDraws = s.settleDraws := by cases ev <;> rfl
@[simp] theorem emit_settleCount (ev : Event) (s : State) : (emit ev s).settleCount = s.settleCount := by cases ev <;> rfl
@[simp] theorem emit_hostData (ev : Event) (s : State) : (emit ev s).hostData = s.hostData := by cases ev <;> rfl
@[simp] theorem emit_hist (ev : Event) (s : State) : (emit ev s).hist = s.hist ++ [ev] := rfl

@[simp] theorem microStep_cfg (u : Upc) (ev : Event) (s : State) : (microStep u ev s).cfg = s.cfg := by cases ev <;> rfl
@[simp] theorem microStep_attached (u : Upc) (ev : Event) (s : State) : (microStep u ev s).attached = s.attached := by cases ev <;> rfl
@[simp] theorem microStep_seqState (u : Upc) (ev : Event) (s : State) : (microStep u ev s).seqState = s.seqState := by cases ev <;> rfl
@[simp] theorem microStep_mode (u : Upc) (ev : Event) (s : State) : (microStep u ev s).mode = s.mode := by cases ev <;> rfl
@[simp] theorem microStep_pllRes (u : Upc) (ev : Event) (s : State) : (microStep u ev s).pllRes = s.pllRes := by cases ev <;> rfl
@[simp] theorem microStep_clampOut (u : Upc) (ev : Event) (s : State) : (microStep u ev s).clampOut = s.clampOut := by cases ev <;> rfl
@[simp] theorem microStep_status (u : Upc) (ev : Event) (s : State) : (microStep u ev s).status = s.status := by cases ev <;> rfl
@[simp] theorem microStep_faulted (u : Upc) (ev : Event) (s : State) : (microStep u ev s).faulted = s.faulted := by cases ev <;> rfl
@[simp] theorem microStep_cmd (u : Upc) (ev : Event) (s : State) : (microStep u ev s).cmd = s.cmd := by cases ev <;> rfl
@[simp] theorem microStep_argFin (u : Upc) (ev : Event) (s : State) : (microStep u ev s).argFin = s.argFin := by cases ev <;> rfl
@[simp] theorem microStep_argTarget (u : Upc) (ev : Event) (s : State) : (microStep u ev s).argTarget = s.argTarget := by cases ev <;> rfl
@[simp] theorem microStep_moves (u : Upc) (ev : Event) (s : State) : (microStep u ev s).moves = s.moves := by cases ev <;> rfl
@[simp] theorem microStep_clkAnswers (u : Upc) (ev : Event) (s : State) : (microStep u ev s).clkAnswers = s.clkAnswers := by cases ev <;> rfl
@[simp] theorem microStep_clkCount (u : Upc) (ev : Event) (s : State) : (microStep u ev s).clkCount = s.clkCount := by cases ev <;> rfl
@[simp] theorem microStep_settleDraws (u : Upc) (ev : Event) (s : State) : (microStep u ev s).settleDraws = s.settleDraws := by cases ev <;> rfl
@[simp] theorem microStep_settleCount (u : Upc) (ev : Event) (s : State) : (microStep u ev s).settleCount = s.settleCount := by cases ev <;> rfl
@[simp] theorem microStep_hostData (u : Upc) (ev : Event) (s : State) : (microStep u ev s).hostData = s.hostData := by cases ev <;> rfl
@[simp] theorem microStep_upc (u : Upc) (ev : Event) (s : State) : (microStep u ev s).upc = u := by cases ev <;> rfl
@[simp] theorem microStep_hist (u : Upc) (ev : Event) (s : State) : (microStep u ev s).hist = s.hist ++ [ev] := rfl

/-! ### A sequence of micro-steps -/

@[simp] theorem runSteps_nil (s : State) : runSteps [] s = s := rfl
@[simp] theorem runSteps_cons (u : Upc) (ev : Event) (rest : List (Upc × Event)) (s : State) :
    runSteps ((u, ev) :: rest) s = runSteps rest (microStep u ev s) := rfl

@[simp] theorem runSteps_cfg (steps : List (Upc × Event)) (s : State) : (runSteps steps s).cfg = s.cfg := by
  induction steps generalizing s with
  | nil => rfl
  | cons p rest ih => simp [runSteps, ih]
@[simp] theorem runSteps_attached (steps : List (Upc × Event)) (s : State) : (runSteps steps s).attached = s.attached := by
  induction steps generalizing s with
  | nil => rfl
  | cons p rest ih => simp [runSteps, ih]
@[simp] theorem runSteps_seqState (steps : List (Upc × Event)) (s : State) : (runSteps steps s).seqState = s.seqState := by
  induction steps generalizing s with
  | nil => rfl
  | cons p rest ih => simp [runSteps, ih]
@[simp] theorem runSteps_mode (steps : List (Upc × Event)) (s : State) : (runSteps steps s).mode = s.mode := by
  induction steps generalizing s with
  | nil => rfl
  | cons p rest ih => simp [runSteps, ih]
@[simp] theorem runSteps_pllRes (steps : List (Upc × Event)) (s : State) : (runSteps steps s).pllRes = s.pllRes := by
  induction steps generalizing s with
  | nil => rfl
  | cons p rest ih => simp [runSteps, ih]
@[simp] theorem runSteps_clampOut (steps : List (Upc × Event)) (s : State) : (runSteps steps s).clampOut = s.clampOut := by
  induction steps generalizing s with
  | nil => rfl
  | cons p rest ih => simp [runSteps, ih]
@[simp] theorem runSteps_status (steps : List (Upc × Event)) (s : State) : (runSteps steps s).status = s.status := by
  induction steps generalizing s with
  | nil => rfl
  | cons p rest ih => simp [runSteps, ih]
@[simp] theorem runSteps_faulted (steps : List (Upc × Event)) (s : State) : (runSteps steps s).faulted = s.faulted := by
  induction steps generalizing s with
  | nil => rfl
  | cons p rest ih => simp [runSteps, ih]
@[simp] theorem runSteps_cmd (steps : List (Upc × Event)) (s : State) : (runSteps steps s).cmd = s.cmd := by
  induction steps generalizing s with
  | nil => rfl
  | cons p rest ih => simp [runSteps, ih]
@[simp] theorem runSteps_argFin (steps : List (Upc × Event)) (s : State) : (runSteps steps s).argFin = s.argFin := by
  induction steps generalizing s with
  | nil => rfl
  | cons p rest ih => simp [runSteps, ih]
@[simp] theorem runSteps_argTarget (steps : List (Upc × Event)) (s : State) : (runSteps steps s).argTarget = s.argTarget := by
  induction steps generalizing s with
  | nil => rfl
  | cons p rest ih => simp [runSteps, ih]
@[simp] theorem runSteps_moves (steps : List (Upc × Event)) (s : State) : (runSteps steps s).moves = s.moves := by
  induction steps generalizing s with
  | nil => rfl
  | cons p rest ih => simp [runSteps, ih]
@[simp] theorem runSteps_clkAnswers (steps : List (Upc × Event)) (s : State) : (runSteps steps s).clkAnswers = s.clkAnswers := by
  induction steps generalizing s with
  | nil => rfl
  | cons p rest ih => simp [runSteps, ih]
@[simp] theorem runSteps_clkCount (steps : List (Upc × Event)) (s : State) : (runSteps steps s).clkCount = s.clkCount := by
  induction steps generalizing s with
  | nil => rfl
  | cons p rest ih => simp [runSteps, ih]
@[simp] theorem runSteps_settleDraws (steps : List (Upc × Event)) (s : State) : (runSteps steps s).settleDraws = s.settleDraws := by
  induction steps generalizing s with
  | nil => rfl
  | cons p rest ih => simp [runSteps, ih]
@[simp] theorem runSteps_settleCount (steps : List (Upc × Event)) (s : State) : (runSteps steps s).settleCount = s.settleCount := by
  induction steps generalizing s with
  | nil => rfl
  | cons p rest ih => simp [runSteps, ih]
@[simp] theorem runSteps_hostData (steps : List (Upc × Event)) (s : State) : (runSteps steps s).hostData = s.hostData := by
  induction steps generalizing s with
  | nil => rfl
  | cons p rest ih => simp [runSteps, ih]
@[simp] theorem runSteps_hist (steps : List (Upc × Event)) (s : State) :
    (runSteps steps s).hist = s.hist ++ steps.map Prod.snd := by
  induction steps generalizing s with
  | nil => simp [runSteps]
  | cons p rest ih => simp [runSteps, ih]

end Sys2Proof.Machine
end

