-- ==== Sys2Proof/Laws/Ops.lean ====
section
/-! SUPPORT. What each shared operation can do, said once. -/

namespace Sys2Proof.Machine

/-- Everything a register write of a device register changes: the register it names, and no other. -/
theorem DeviceRegs.write_cases (d : DeviceRegs) (w : RegWrite) :
    (∃ v, w = .route v ∧ d.write w = { d with route := some v })
    ∨ (∃ v, w = .chan v ∧ d.write w = { d with chan := some v })
    ∨ (∃ v, w = .pll v ∧ d.write w = { d with pll := some v })
    ∨ (∃ v, w = .pllDiv v ∧ d.write w = { d with pllDiv := some v })
    ∨ (∃ v, w = .en v ∧ d.write w = { d with en := some v }) := by
  cases w with
  | route v => exact .inl ⟨v, rfl, rfl⟩
  | chan v => exact .inr (.inl ⟨v, rfl, rfl⟩)
  | pll v => exact .inr (.inr (.inl ⟨v, rfl, rfl⟩))
  | pllDiv v => exact .inr (.inr (.inr (.inl ⟨v, rfl, rfl⟩)))
  | en v => exact .inr (.inr (.inr (.inr ⟨v, rfl, rfl⟩)))

/-- A device register holds the last record written to it. -/
theorem held_write_same (d : DeviceRegs) (w : RegWrite) : (d.write w).held w.reg = some w := by
  cases w <;> rfl

/-- A register write leaves the other device registers alone. -/
theorem held_write_other (d : DeviceRegs) (w : RegWrite) (r : Reg) (h : r ≠ w.reg) :
    (d.write w).held r = d.held r := by
  cases w <;> cases r <;> first | rfl | exact absurd rfl h

/-- The outcome of a read of a device register (R35). -/
theorem readDevice_cases (r : Reg) (d : DeviceRegs) :
    (∃ w, d.held r = some w ∧ readDevice r d = .ok w)
    ∨ (d.held r = none ∧ readDevice r d = .error .unwrittenRead) := by
  cases h : d.held r with
  | some w => exact .inl ⟨w, rfl, by simp [readDevice, h]⟩
  | none => exact .inr ⟨rfl, by simp [readDevice, h]⟩

/-- Everything an emitted event can do (R190 to R195). -/
theorem emit_cases (ev : Event) (s : State) :
    (ev = .resetDeassert ∧ emit ev s = { s with rst := .deasserted, hist := s.hist ++ [ev] })
    ∨ (ev = .clkEnable true ∧ emit ev s = { s with clk := .on, hist := s.hist ++ [ev] })
    ∨ (ev = .clkEnable false ∧ emit ev s = { s with hist := s.hist ++ [ev] })
    ∨ (∃ w, ev = .regWrite w ∧ emit ev s =
        { s with dev := s.dev.write w, lockKnown := lockAfter s.cfg.topo s.lockKnown w, hist := s.hist ++ [ev] })
    ∨ (∃ t, ev = .delay t ∧ emit ev s = { s with busy := true, timer := .running t, hist := s.hist ++ [ev] })
    ∨ (ev = .clkDisable ∧ emit ev s = { s with clk := .off, lockKnown := false, hist := s.hist ++ [ev] })
    ∨ (ev = .resetAssert ∧ emit ev s = { s with rst := .asserted, lockKnown := false, hist := s.hist ++ [ev] }) := by
  cases ev with
  | resetDeassert => exact .inl ⟨rfl, rfl⟩
  | clkEnable ok =>
    cases ok with
    | true => exact .inr (.inl ⟨rfl, rfl⟩)
    | false => exact .inr (.inr (.inl ⟨rfl, rfl⟩))
  | regWrite w => exact .inr (.inr (.inr (.inl ⟨w, rfl, rfl⟩)))
  | delay t => exact .inr (.inr (.inr (.inr (.inl ⟨t, rfl, rfl⟩))))
  | clkDisable => exact .inr (.inr (.inr (.inr (.inr (.inl ⟨rfl, rfl⟩)))))
  | resetAssert => exact .inr (.inr (.inr (.inr (.inr (.inr ⟨rfl, rfl⟩)))))

/-- A micro-step is its event emitted from the state with `UPC` at its name. -/
theorem microStep_eq (u : Upc) (ev : Event) (s : State) : microStep u ev s = emit ev { s with upc := u } := rfl

/-- Two sequences one after the other. -/
theorem runSteps_append (l₁ l₂ : List (Upc × Event)) (s : State) :
    runSteps (l₁ ++ l₂) s = runSteps l₂ (runSteps l₁ s) := by
  induction l₁ generalizing s with
  | nil => rfl
  | cons p rest ih => exact ih _

/-- The settle duration stays within its bounds (R194). -/
theorem settleTime_bounds (s : State) : 100 ≤ settleTime s ∧ settleTime s ≤ 150 := by
  unfold settleTime settleMin
  split
  · rename_i d _ _; exact ⟨by omega, by have := d.isLt; omega⟩
  · exact ⟨by omega, by have := (Config.settleDraw s.settleCount).isLt; omega⟩

/-- A clamped value lies between its bounds. -/
theorem clampNat_bounds (x lo hi : Nat) (h : lo ≤ hi) : lo ≤ clampNat x lo hi ∧ clampNat x lo hi ≤ hi := by
  unfold clampNat; omega

/-- The clamp bounds are ordered, and the maximum is below 999 000 (R161). -/
theorem clamp_table (g : Gen) : clampMin g ≤ clampMax g ∧ clampMax g < 999000 := by
  cases g with
  | old => have := Config.clampSpanOld.isLt; simp only [clampMin, clampMax]; omega
  | new => have := Config.clampSpanNew.isLt; simp only [clampMin, clampMax]; omega

/-- `MODE_RESET` is a member of `MODES` (R23). -/
theorem modeReset_inModes : inModes Config.modeReset.toNat = true := by
  have := Config.modeReset.isLt
  simp [inModes]; omega

/-- A member of `MODES` fits 4 bits (R23). -/
theorem inModes_lt {mode : Nat} (h : inModes mode = true) : mode < 16 := by
  simp [inModes] at h; omega

end Sys2Proof.Machine
end

