-- ==== Sys2Proof/Laws/PerInstr.lean ====
section
/-! SUPPORT. Statements made once per command: the encoded word of a well-formed command is spelled by its
own row of the opcode table and by no other row (R73). -/

namespace Sys2Proof.Laws.EncodeSpells

/-- The word of a well-formed command is spelled by exactly one row of the table, its own. -/
def Statement (i : Instr) : Prop :=
  i.wellFormed = true → ∀ x : Op, x.spells (encode i) = true ↔ x = i.op

theorem synth (e : Bool) : Statement (.synth e) := by
  intro _ x; cases e <;> cases x <;> decide

theorem pllCalc : Statement .pllCalc := by
  intro _ x; cases x <;> decide

theorem clamp : Statement .clamp := by
  intro _ x; cases x <;> decide

theorem setMode (mode : Nat) : Statement (.setMode mode) := by
  intro h x
  have hm : mode < 16 := by simpa [Instr.wellFormed] using h
  interval_cases mode <;> cases x <;> decide

theorem enable : Statement .enable := by
  intro _ x; cases x <;> decide

theorem disable (keep : Bool) : Statement (.disable keep) := by
  intro _ x; cases keep <;> cases x <;> decide

end Sys2Proof.Laws.EncodeSpells
end

