-- ==== Sys2Proof/Laws/Platform.lean ====
section
/-! SUPPORT. What a step and a run of the platform can do, said once. -/

namespace Sys2Proof.Machine

/-- Everything a step of the platform that answers next can have done (R229). -/
theorem stepLane_cases {k : Nat} {blocks after : List State} (h : stepLane k blocks = .next after) :
    ∃ s t, blocks[k]? = some s ∧ step s = .next t ∧ after = blocks.set k t := by
  unfold stepLane at h
  split at h
  · cases h
  · rename_i s hs
    split at h
    · rename_i t ht; cases h; exact ⟨s, t, hs, ht, rfl⟩
    · cases h
    · cases h

/-- An empty schedule leaves the platform as it is. -/
@[simp] theorem runLanes_nil (blocks : List State) : runLanes [] blocks = .next blocks := rfl

/-- A run of the platform that answers next makes its first step and then the rest. -/
theorem runLanes_cons {k : Nat} {ks : List Nat} {blocks after : List State}
    (h : runLanes (k :: ks) blocks = .next after) :
    ∃ mid, stepLane k blocks = .next mid ∧ runLanes ks mid = .next after := by
  unfold runLanes at h
  split at h
  · rename_i mid hm; exact ⟨mid, hm, h⟩
  · cases h
  · cases h

end Sys2Proof.Machine
end

