-- ==== Sys2Proof/Laws/Search.lean ====
section
/-! SUPPORT. The small lemmas of the PLL search. -/

namespace Sys2Proof.Machine

/-- The output dividers are 1 to 64 (R6, R101). -/
theorem mem_divs {div : Nat} : div ∈ divs ↔ 1 ≤ div ∧ div ≤ 64 := by
  simp [divs, divMin, divMax, List.mem_range'_1]; omega

/-- The pairs are all of `N+1` in 60 to 120 with `M+1` in 1 to 7 (R6, R101). -/
theorem mem_pairs {np1 mp1 : Nat} : (np1, mp1) ∈ pairs ↔ 60 ≤ np1 ∧ np1 ≤ 120 ∧ 1 ≤ mp1 ∧ mp1 ≤ 7 := by
  simp [pairs, np1Min, np1Max, mp1Min, mp1Max, List.mem_range'_1]; omega

/-- The stage checks of a pair, in numbers (R102). -/
theorem legalPair_iff {fin : Nat} {e : Bool} {np1 mp1 : Nat} :
    legalPair fin e np1 mp1 = true ↔
      900000000 ≤ fin * np1 / mp1 ∧ fin * np1 / mp1 ≤ 1800000000
        ∧ 12000000 ≤ fin / mp1 ∧ fin / mp1 ≤ 24000000
        ∧ (if e = true then fin * np1 / mp1 / 2 else fin * np1 / mp1) ≤ 1039500000 := by
  simp only [legalPair, Bool.and_eq_true, decide_eq_true_eq]
  simp only [foutPre, fvco, fpfd, fvcoMin, fvcoMax, fpfdMin, fpfdMax, fpreMax, extraDiv]
  tauto

/-- The result of keeping the better of two: the new candidate, or the old best that it does not beat. -/
theorem better_cases (best : Option PllResult) (c : PllResult) :
    (better best c = some c ∧ ∀ b, best = some b → c.err < b.err)
    ∨ (∃ b, best = some b ∧ better best c = best ∧ b.err ≤ c.err) := by
  cases best with
  | none => exact .inl ⟨rfl, by simp⟩
  | some b =>
    by_cases h : c.err < b.err
    · exact .inl ⟨by simp [better, h], by simpa using h⟩
    · exact .inr ⟨b, rfl, by simp [better, h], by omega⟩

/-- Only a result with error 0 ends the search early (R105). -/
theorem isExact_iff (best : Option PllResult) : isExact best = true ↔ ∃ b, best = some b ∧ b.err = 0 := by
  cases best <;> simp [isExact]

/-- The outcome of a selection (R121). -/
theorem select_cases (r0 r1 : Option PllResult) :
    (r0 = none ∧ select r0 r1 = r1) ∨ (r1 = none ∧ select r0 r1 = r0)
    ∨ (∃ b0 b1, r0 = some b0 ∧ r1 = some b1 ∧ b1.err < b0.err ∧ select r0 r1 = some b1)
    ∨ (∃ b0 b1, r0 = some b0 ∧ r1 = some b1 ∧ b0.err ≤ b1.err ∧ select r0 r1 = some b0) := by
  cases r0 with
  | none => exact .inl ⟨rfl, rfl⟩
  | some b0 =>
    cases r1 with
    | none => exact .inr (.inl ⟨rfl, rfl⟩)
    | some b1 =>
      by_cases h : b1.err < b0.err
      · exact .inr (.inr (.inl ⟨b0, b1, rfl, rfl, h, by simp [select, h]⟩))
      · exact .inr (.inr (.inr ⟨b0, b1, rfl, rfl, by omega, by simp [select, h]⟩))

/-- The absolute difference is at most the larger of the two (R76). -/
theorem absDiff_le_max (a b : Nat) : absDiff a b ≤ max a b := by unfold absDiff; omega

end Sys2Proof.Machine
end

