-- ==== Sys2Proof/Laws/Step.lean ====
section
/-! SUPPORT. What a command, a move and a step can do, said once each. -/

namespace Sys2Proof.Machine

/-- Writing a PLL result: with one it is stored and the status is `OK`, without one `VALID` is cleared (R110). -/
theorem writeResult_cases (r : Option PllResult) (s : State) :
    (∃ p, r = some p ∧ writeResult r s = finish .ok { s with pllRes := some (toRegister p) })
    ∨ (r = none ∧ writeResult r s = finish .invalidConfiguration { s with pllRes := none }) := by
  cases r with
  | some p => exact .inl ⟨p, rfl, rfl⟩
  | none => exact .inr ⟨rfl, rfl⟩

/-- Storing a mode: a member of `MODES` is stored, any other is an illegal command (R170). -/
theorem storeMode_cases (mode : Nat) (s : State) :
    (inModes mode = true ∧ storeMode mode s = finish .ok { s with mode := BitVec.ofNat 4 mode })
    ∨ (inModes mode = false ∧ storeMode mode s = finish .illegalCommand s) := by
  cases h : inModes mode with
  | true => exact .inl ⟨rfl, by simp [storeMode, h]⟩
  | false => exact .inr ⟨rfl, by simp [storeMode, h]⟩

/-- The paths of `ENABLE` (R140, R147, R148). -/
theorem enable_cases (s : State) :
    (s.seqState = .enabled ∧ enable s = finish .ok s)
    ∨ (s.seqState = .disabled ∧ s.cfg.topo = .shared ∧ s.pllRes = none ∧ enable s = raise .noPllResult s)
    ∨ (s.seqState = .disabled ∧ clkOutcome s = false
        ∧ (s.cfg.topo = .legacy ∨ ∃ r, s.pllRes = some r) ∧ enable s = clockFail (startClock s))
    ∨ (s.seqState = .disabled ∧ s.cfg.topo = .legacy ∧ clkOutcome s = true
        ∧ enable s = legacyPowerUp (startClock s))
    ∨ (∃ r, s.seqState = .disabled ∧ s.cfg.topo = .shared ∧ s.pllRes = some r ∧ clkOutcome s = true
        ∧ enable s = sharedPowerUp r (startClock s)) := by
  unfold enable
  split
  · exact .inl ⟨by assumption, rfl⟩
  · rename_i h₁ h₂
    cases h : clkOutcome s with
    | true => exact .inr (.inr (.inr (.inl ⟨h₁, h₂, rfl, by simp [legacyEnable, h]⟩)))
    | false => exact .inr (.inr (.inl ⟨h₁, rfl, .inl h₂, by simp [legacyEnable, h]⟩))
  · rename_i h₁ h₂ h₃; exact .inr (.inl ⟨h₁, h₂, h₃, rfl⟩)
  · rename_i r h₁ h₂ h₃
    cases h : clkOutcome s with
    | true => exact .inr (.inr (.inr (.inr ⟨r, h₁, h₂, h₃, rfl, by simp [sharedEnable, h]⟩)))
    | false => exact .inr (.inr (.inl ⟨h₁, rfl, .inr ⟨r, h₃⟩, by simp [sharedEnable, h]⟩))

/-- The paths of `DISABLE` (R150 to R152). -/
theorem disable_cases (keep : Bool) (s : State) :
    (s.seqState = .disabled ∧ disable keep s = finish .invalidConfiguration s)
    ∨ (s.seqState = .enabled ∧ s.cfg.topo = .shared ∧ keep = true
        ∧ disable keep s = finish .ok { s with seqState := .disabled })
    ∨ (s.seqState = .enabled ∧ (s.cfg.topo = .legacy ∨ keep = false)
        ∧ disable keep s = finish .ok (teardown s)) := by
  unfold disable
  split
  · exact .inl ⟨by assumption, rfl⟩
  · rename_i h₁ h₂; exact .inr (.inl ⟨h₁, h₂, rfl, rfl⟩)
  · rename_i h₁ h₂; exact .inr (.inr ⟨h₁, .inr rfl, rfl⟩)
  · rename_i h₁ h₂; exact .inr (.inr ⟨h₁, .inl h₂, rfl⟩)

/-- Every command answers a next state: none stops the machine. -/
theorem exec_next (i : Instr) (s : State) : ∃ t, exec i s = .next t := by
  cases i <;> exact ⟨_, rfl⟩

/-- The paths of a write of `CMD` (R70). -/
theorem issue_cases (w : Word) (s : State) :
    (s.busy = true ∧ issue w s = .next (raise .busyIssue s))
    ∨ (∃ i, s.busy = false ∧ decode w = .ok i ∧ issue w s = exec i (latch w s))
    ∨ (∃ e, s.busy = false ∧ decode w = .error e ∧ issue w s = .next (finish .illegalCommand (latch w s))) := by
  cases hb : s.busy with
  | true => exact .inl ⟨rfl, by simp [issue, hb]⟩
  | false =>
    cases hd : decode w with
    | ok i => exact .inr (.inl ⟨i, rfl, rfl, by simp [issue, hb, hd]⟩)
    | error e => exact .inr (.inr ⟨e, rfl, rfl, by simp [issue, hb, hd]⟩)

/-- The paths of a host read (R75). -/
theorem hostRead_cases (r : HostReg) (s : State) :
    (∃ w, hostWord r s = some w ∧ hostRead r s = { s with hostData := some (.word r w) })
    ∨ (r = .clampOut ∧ s.clampOut = none ∧ hostRead r s = raise .unwrittenRead s) := by
  cases h : hostWord r s with
  | some w => exact .inl ⟨w, rfl, by simp [hostRead, h]⟩
  | none => cases r <;> simp_all [hostWord, hostRead]

/-- The paths of a detach (R253). -/
theorem detach_cases (s : State) :
    (s.busy = true ∧ detach s = raise .busyIssue s)
    ∨ (s.busy = false ∧ s.seqState = .enabled ∧ detach s = { teardown s with upc := .idle, attached := false })
    ∨ (s.busy = false ∧ s.seqState = .disabled ∧ detach s = { s with attached := false }) := by
  cases hb : s.busy with
  | true => exact .inl ⟨rfl, by simp [detach, hb]⟩
  | false =>
    cases hs : s.seqState with
    | enabled => exact .inr (.inl ⟨rfl, rfl, by simp [detach, hb, hs]⟩)
    | disabled => exact .inr (.inr ⟨rfl, rfl, by simp [detach, hb, hs]⟩)

/-- What the timer or the block can do without the host (R146, R194). -/
theorem advance_cases (s : State) :
    (∃ t, s.upc = .enLReady ∧ s.timer = .running t ∧ advance s = endSettle s)
    ∨ (s.upc = .enLReady ∧ s.timer = .ended ∧ advance s = resume s)
    ∨ ((s.upc ≠ .enLReady ∨ s.timer = .idle) ∧ advance s = s) := by
  unfold advance
  split
  · rename_i t h₁ h₂; exact .inl ⟨t, h₁, h₂, rfl⟩
  · rename_i h₁ h₂; exact .inr (.inl ⟨h₁, h₂, rfl⟩)
  · rename_i h₁ h₂
    refine .inr (.inr ⟨?_, rfl⟩)
    by_cases hu : s.upc = .enLReady
    · cases ht : s.timer with
      | idle => exact .inr rfl
      | running t => exact absurd ht (h₁ t hu)
      | ended => exact absurd ht (h₂ hu)
    · exact .inl hu

/-- Everything a step that answers a next state can have done. -/
theorem step_cases {s t : State} (h : step s = .next t) :
    s.attached = true ∧ s.faulted = none
    ∧ ((s.moves = [] ∧ t = advance s)
      ∨ ∃ m rest, s.moves = m :: rest ∧ makeMove m { s with moves := rest } = .next t) := by
  unfold step at h
  split at h
  · rename_i ha
    split at h
    · cases h
    · rename_i hf
      refine ⟨ha, hf, ?_⟩
      unfold takeMove at h
      split at h
      · rename_i hm; cases h; exact .inl ⟨hm, rfl⟩
      · rename_i m rest hm; exact .inr ⟨m, rest, hm, h⟩
  · cases h

/-- A write of an operand latch as a step. -/
theorem makeMove_writeFin (w : Word) (s : State) : makeMove (.writeFin w) s = .next { s with argFin := w } := rfl
/-- A write of an operand latch as a step. -/
theorem makeMove_writeTarget (w : Word) (s : State) :
    makeMove (.writeTarget w) s = .next { s with argTarget := w } := rfl
/-- A write of `CMD` as a step. -/
theorem makeMove_writeCmd (w : Word) (s : State) : makeMove (.writeCmd w) s = issue w s := rfl
/-- A host read as a step. -/
theorem makeMove_read (r : HostReg) (s : State) : makeMove (.read r) s = .next (hostRead r s) := rfl
/-- A host read of `PLLRES` as a step. -/
theorem makeMove_readPllRes (s : State) : makeMove .readPllRes s = .next (hostReadPllRes s) := rfl
/-- A detach as a step. -/
theorem makeMove_detach (s : State) : makeMove .detach s = .next (detach s) := rfl
/-- A step without a host move. -/
theorem makeMove_wait (s : State) : makeMove .wait s = .next (advance s) := rfl

end Sys2Proof.Machine
end

