-- ==== Sys2Proof/Tests/Slice0.lean ====
section
/-! SUPPORT. Tests of the model against 95_test_vectors.md and the encodings of R73, and for every statement
with hypotheses a witness that meets them. -/

namespace Sys2Proof.Tests

open Sys2Proof Sys2Proof.Machine

/-! ### Small states -/

/-- A block right after attach: reset asserted, clock off, `BASE` 4096. -/
def fresh (g : Gen) (t : Topo) : State :=
  State.attach { gen := g, topo := t, lane := 0, base := 4096, clkHandle := 0, rstHandle := 0 } .asserted .off

/-- The same with the two operand latches written. -/
def withArgs (s : State) (fin target : Word) : State := { s with argFin := fin, argTarget := target }

/-- A field of the next state, where there is one. -/
def field {α : Type} (o : Host.Outcome State Fault Refusal) (f : State → α) : Option α :=
  match o with
  | .next s => some (f s)
  | .fault _ => none
  | .refused _ => none

/-- The PLL result of V-C11. -/
def resultC11 : PllRegister := { n := 76, m := 1, e := false, div := 1, freq := 148500000, err := 0 }

/-! ### Well-formedness: the one check there is refuses a mode of more than 4 bits (R71) -/

theorem test_wellFormed_refuses_mode_16 : (Instr.setMode 16).wellFormed = false := by decide
theorem test_wellFormed_takes_mode_15 : (Instr.setMode 15).wellFormed = true := by decide

/-! ### Decoding: the words of R73 and of V-X1 to V-X11, bit by bit -/

theorem test_decode_synth : decode 0b00000000000000000000000000000001 = .ok (.synth false) := by decide
theorem test_decode_synth_e : decode 0b00000000000000000000000000010001 = .ok (.synth true) := by decide
theorem test_decode_pllCalc : decode 0b00000000000000000000000000000010 = .ok .pllCalc := by decide
theorem test_decode_clamp : decode 0b00000000000000000000000000000011 = .ok .clamp := by decide
theorem test_decode_setMode : decode 0b00000000000000000000010100000100 = .ok (.setMode 5) := by decide
theorem test_decode_enable : decode 0b00000000000000000000000000000101 = .ok .enable := by decide
theorem test_decode_disable : decode 0b00000000000000000000000000000110 = .ok (.disable false) := by decide
theorem test_decode_disable_keep : decode 0b00000000000000000000000000100110 = .ok (.disable true) := by decide

/-- V-X1 to V-X3: reserved opcodes. -/
theorem test_decode_reserved_opcodes :
    [0x00000000, 0x00000007, 0x0000000F].map decode = List.replicate 3 (.error .reservedOpcode) := by decide

/-- V-X4 to V-X11: reserved bits. -/
theorem test_decode_reserved_bits :
    [0x00000012, 0x00000025, 0x00000016, 0x00000044, 0x00001001, 0x80000005, 0x00000103, 0x00000031].map decode
      = List.replicate 8 (.error .reservedBits) := by decide

theorem test_decodeTableWord : decodeTableWord 32 0x00000B04 = some (.setMode 11) := by decide

/-! ### SYNTH and PLL_CALC -/

/-- V-S1, with its packed word. -/
theorem test_synth_VS1 :
    field (exec (.synth false) (withArgs (fresh .old .shared) 48000000 148500000))
      (fun s => (s.pllRes, pllRes0Word s.pllRes, s.status))
      = some (some { n := 85, m := 3, e := false, div := 1, freq := 147428571, err := 1071429 }, 0x00015531, .ok) := by
  decide +kernel

/-- V-S14: a nonzero tie keeps the first candidate. -/
theorem test_synth_VS14 :
    field (exec (.synth true) (withArgs (fresh .old .shared) 24000000 20500002)) (fun s => s.pllRes)
      = some (some { n := 59, m := 0, e := true, div := 5, freq := 20571428, err := 71426 }) := by
  decide +kernel

/-- V-C9: the same error in both runs, the run without the extra divider wins. -/
theorem test_pllCalc_VC9 :
    field (exec .pllCalc (withArgs (fresh .new .shared) 24000000 20500002)) (fun s => s.pllRes)
      = some (some { n := 83, m := 1, e := false, div := 7, freq := 20571428, err := 71426 }) := by
  decide +kernel

/-- V-C6b: both runs empty. -/
theorem test_pllCalc_VC6b :
    field (exec .pllCalc (withArgs { fresh .new .shared with pllRes := some resultC11 } 168000007 100000000))
      (fun s => (s.pllRes, s.status)) = some (none, .invalidConfiguration) := by
  decide +kernel

/-- V-S12: the product of the input frequency and the multiplier does not wrap at 32 bits. -/
theorem test_search_VS12 :
    search 100000000 33000000 false
      = some { n := 64, m := 6, e := false, div := 4, freq := 33163265, err := 163265 } := by
  decide +kernel

/-! ### CLAMP and SET_MODE -/

/-- V-K1: 10 000 kHz is raised to the minimum of the older generation. -/
theorem test_clamp_VK1 :
    field (exec .clamp (withArgs (fresh .old .legacy) 0 10000)) (fun s => s.clampOut) = some (some 30000) := by
  show some (some (BitVec.ofNat 32 (min (max 10000 30000) (clampMax .old)))) = some (some 30000)
  have h : min (max 10000 30000) (clampMax .old) = 30000 := by have := (clamp_table .old).1; simp only [clampMin] at this; omega
  rw [h]; rfl

/-- V-K5: one below the minimum of the newer generation. -/
theorem test_clamp_VK5 :
    field (exec .clamp (withArgs (fresh .new .legacy) 0 25174)) (fun s => s.clampOut) = some (some 25175) := by
  show some (some (BitVec.ofNat 32 (min (max 25174 25175) (clampMax .new)))) = some (some 25175)
  have h : min (max 25174 25175) (clampMax .new) = 25175 := by have := (clamp_table .new).1; simp only [clampMin] at this; omega
  rw [h]; rfl

/-- V-M1, with the one mode every choice of `MODES` has. -/
theorem test_setMode_member :
    field (exec (.setMode Config.modeReset.toNat) (fresh .old .legacy)) (fun s => (s.status, s.hist)) = some (.ok, []) := by
  simp [exec, execSetMode, storeMode, modeReset_inModes, field, finish, fresh, State.attach]

/-- V-M2, with a number that is no mode for any choice of `MODES`. -/
theorem test_setMode_other :
    field (exec (.setMode 16) (fresh .old .legacy)) (fun s => s.status) = some .illegalCommand := by rfl

/-! ### ENABLE and DISABLE -/

/-- V-E1p: the events of a legacy power-up up to its delay, and the pause. -/
theorem test_enable_legacy :
    field (exec .enable { fresh .old .legacy with clkAnswers := [true], settleDraws := [7] })
      (fun s => (s.hist.map Event.tag, s.busy, s.upc, s.seqState, s.timer))
      = some ([0, 1, 2, 2, 2, 2, 2, 3], true, .enLReady, .disabled, .running 107) := by
  decide

/-- V-E3: the clock does not start. -/
theorem test_enable_clock_failure :
    field (exec .enable { fresh .new .legacy with clkAnswers := [false] })
      (fun s => (s.hist, s.rst, s.clk, s.status))
      = some ([.resetDeassert, .clkEnable false, .resetAssert], .asserted, .off, .clockEnableFailure) := by
  decide

/-- V-D2: `DISABLE keep` in `LEGACY` tears down all the same. -/
theorem test_disable_legacy_keep :
    field (exec (.disable true) { fresh .new .legacy with seqState := .enabled, clk := .on, rst := .deasserted })
      (fun s => (s.hist, s.rst, s.clk, s.seqState))
      = some ([.regWrite (.pll (.legacy 0 0)), .regWrite (.chan 0), .regWrite (.en zeroEn), .clkDisable, .resetAssert],
          .asserted, .off, .disabled) := by
  decide

/-- V-L4: `DISABLE` before any `ENABLE`. -/
theorem test_disable_first :
    field (exec (.disable false) (fresh .old .shared)) (fun s => (s.hist, s.status)) = some ([], .invalidConfiguration) := by
  decide

/-! ### Steps -/

/-- V-F1: `CMD` written while busy. -/
theorem test_busy_issue :
    field (step ({ fresh .old .legacy with busy := true, upc := .enLReady, timer := .running 100 }.withFetchWord 32 3))
      (fun s => s.faulted) = some (some .busyIssue) := by decide

/-- V-F3: `CLAMP_OUT` read before any `CLAMP`. -/
theorem test_unwritten_read :
    field (step { fresh .old .legacy with moves := [.read .clampOut] }) (fun s => s.faulted)
      = some (some .unwrittenRead) := by decide

/-- `PLLRES` of V-C11, read as one access (R58, R75). -/
theorem test_read_pllRes :
    field (step { fresh .old .legacy with moves := [.readPllRes], pllRes := some resultC11 }) (fun s => s.hostData)
      = some (some (.pllRes 0x00014C11 148500000 0)) := by decide

/-- V-F4: a faulted block takes no step. -/
theorem test_faulted_stops :
    step { fresh .old .legacy with faulted := some .busyIssue, moves := [.writeCmd 3] } = .fault (.stopped .busyIssue) := by
  rfl

/-- V-X4: an illegal word only reports itself, as the first command after reset. -/
theorem test_illegal_word :
    field (step (State.reset.withFetchWord 32 0x12)) (fun s => (s.status, s.hist, s.busy)) = some (.illegalCommand, [], false) := by
  decide

/-- V-S1 and V-C11, packed (R75). -/
theorem test_pllRes0_VC11 : pllRes0Word (some resultC11) = 0x00014C11 := by decide

/-- V-E1p: the word `STATE` during the delay. -/
theorem test_state_word_paused :
    stateWord { fresh .old .legacy with busy := true, mode := 5 } = 0x00000502 := by decide

/-! ### Witnesses: for every statement with hypotheses, something that meets them -/

theorem witness_StepRunsDecodedCommand_faulted :
    ∃ (s : State) (w : Word) (rest : List Move), s.attached = true ∧ s.moves = .writeCmd w :: rest
      ∧ s.faulted = some .noPllResult :=
  ⟨{ fresh .old .legacy with moves := [.writeCmd 3], faulted := some .noPllResult }, 3, [], rfl, rfl, rfl⟩

theorem witness_StepRunsDecodedCommand_busy :
    ∃ (s : State) (w : Word) (rest : List Move), s.attached = true ∧ s.moves = .writeCmd w :: rest
      ∧ s.faulted = none ∧ s.busy = true :=
  ⟨{ fresh .old .legacy with moves := [.writeCmd 3], busy := true }, 3, [], rfl, rfl, rfl, rfl⟩

theorem witness_StepRunsDecodedCommand_runs :
    ∃ (s : State) (w : Word) (rest : List Move), s.attached = true ∧ s.moves = .writeCmd w :: rest
      ∧ s.faulted = none ∧ s.busy = false ∧ decode w = .ok (.setMode 15) :=
  ⟨{ fresh .old .legacy with moves := [.writeCmd 0xF04, .wait] }, 0xF04, [.wait], rfl, rfl, rfl, rfl, by decide⟩

theorem witness_StepRunsDecodedCommand_illegal :
    ∃ (s : State) (w : Word) (rest : List Move), s.attached = true ∧ s.moves = .writeCmd w :: rest
      ∧ s.faulted = none ∧ s.busy = false ∧ decode w = .error .reservedOpcode :=
  ⟨{ fresh .old .legacy with moves := [.writeCmd 7] }, 7, [], rfl, rfl, rfl, rfl, by decide⟩

theorem witness_DecodeEncodeRoundTrip : (Instr.setMode 15).wellFormed = true := by decide

theorem witness_EncodeDecodeRoundTrip : decode 0x00000F04 = .ok (.setMode 15) := by decide

/-- A result of the search: V-S11, for the statements about one. -/
theorem witness_search_result :
    search 48000000 40000000 true = some { n := 69, m := 1, e := true, div := 3, freq := 40000000, err := 0 } := by
  decide +kernel

theorem witness_SearchIsFirstLeastError : ∃ r, search 48000000 40000000 true = some r := ⟨_, witness_search_result⟩

theorem witness_SearchEmptyExactly : (168000007 : Nat) ≤ 168000007 ∧ (168000007 : Nat) ≤ 192000000 := by decide

theorem witness_SearchEmptyExactly_top : (168000007 : Nat) ≤ 192000000 ∧ (192000000 : Nat) ≤ 192000000 := by decide

theorem witness_SearchResultLaws : ∃ r, search 48000000 40000000 true = some r := ⟨_, witness_search_result⟩

/-- A pair past the band checks: 48 MHz with `N+1 = 60`, `M+1 = 2` (R102). -/
theorem witness_SearchResultLaws_bands :
    900000000 ≤ fvco 48000000 60 2 ∧ fvco 48000000 60 2 ≤ 1800000000
      ∧ 12000000 ≤ fpfd 48000000 2 ∧ fpfd 48000000 2 ≤ 24000000 := by decide

theorem witness_SearchResultLaws_pair :
    Claim.Legal 27000000 false 77 2 ∧ (27000000 : Nat) * 77 / 2 ≤ 1800000000 := by
  unfold Claim.Legal Claim.preDivider; decide

theorem witness_ExtraDividerRunNeverEmpty_low : (12000000 : Nat) ≤ 12000000 ∧ (12000000 : Nat) ≤ 168000006 := by decide

theorem witness_ExtraDividerRunNeverEmpty_high : (12000000 : Nat) ≤ 168000006 ∧ (168000006 : Nat) ≤ 168000006 := by decide

theorem witness_ResultFitsRegister :
    ∃ r, search (48000000 : Word).toNat (40000000 : Word).toNat true = some r := ⟨_, witness_search_result⟩

theorem witness_SelectionKeepsSmallerError :
    ∃ r0 r1 : PllResult, r1.err < r0.err ∧ r1.err ≤ r1.err :=
  ⟨{ n := 74, m := 3, e := false, div := 2, freq := 64285714, err := 4285714 },
   { n := 69, m := 1, e := true, div := 2, freq := 60000000, err := 0 }, by decide, by decide⟩

/-- V-C13. -/
theorem witness_pllCalc_result :
    pllCalcResult 48000000 60000000 = some { n := 69, m := 1, e := true, div := 2, freq := 60000000, err := 0 } := by
  decide +kernel

theorem witness_PllCalcBestOfBothRuns :
    (∃ r, pllCalcResult 48000000 60000000 = some r) ∧ Claim.Legal 48000000 true 70 2 := by
  refine ⟨⟨_, witness_pllCalc_result⟩, ?_⟩
  unfold Claim.Legal Claim.preDivider; decide

theorem witness_SynthStoresResult_some :
    ∃ (s : State) (r : PllResult), search s.argFin.toNat s.argTarget.toNat true = some r :=
  ⟨withArgs (fresh .old .shared) 48000000 40000000, _, witness_search_result⟩

theorem witness_SynthStoresResult_none :
    ∃ s : State, search s.argFin.toNat s.argTarget.toNat true = none :=
  ⟨withArgs (fresh .old .shared) 11999999 40000000, by decide⟩

theorem witness_PllCalcStoresSelection_some :
    ∃ (s : State) (r : PllResult), select (search s.argFin.toNat s.argTarget.toNat false)
      (search s.argFin.toNat s.argTarget.toNat true) = some r :=
  ⟨withArgs (fresh .old .shared) 48000000 60000000, _, witness_pllCalc_result⟩

theorem witness_PllCalcStoresSelection_none :
    ∃ s : State, select (search s.argFin.toNat s.argTarget.toNat false)
      (search s.argFin.toNat s.argTarget.toNat true) = none :=
  ⟨withArgs (fresh .old .shared) 11999999 40000000, by decide⟩

theorem witness_ClampHoldsTargetInBounds_low :
    (withArgs (fresh .old .legacy) 0 29999).argTarget.toNat < clampMin .old := by decide

theorem witness_ClampHoldsTargetInBounds_high :
    clampMax .new < (withArgs (fresh .new .legacy) 0 999000).argTarget.toNat := by
  have := (clamp_table .new).2
  show clampMax .new < 999000
  exact this

theorem witness_ClampHoldsTargetInBounds_inside :
    clampMin .old ≤ (withArgs (fresh .old .legacy) 0 30000).argTarget.toNat
      ∧ (withArgs (fresh .old .legacy) 0 30000).argTarget.toNat ≤ clampMax .old :=
  ⟨by decide, (clamp_table .old).1⟩

theorem witness_EnableWhileEnabledIsNoOp : { fresh .old .legacy with seqState := .enabled }.seqState = .enabled := rfl

theorem witness_EnableSharedWithoutResultFaults :
    (fresh .old .shared).seqState = .disabled ∧ (fresh .old .shared).cfg.topo = .shared
      ∧ (fresh .old .shared).pllRes = none := ⟨rfl, rfl, rfl⟩

theorem witness_EnableClockFailure_legacy :
    ∃ s : State, s.seqState = .disabled ∧ s.cfg.topo = .legacy ∧ clkOutcome s = false :=
  ⟨{ fresh .new .legacy with clkAnswers := [false] }, rfl, rfl, rfl⟩

theorem witness_EnableClockFailure_shared :
    ∃ s : State, s.seqState = .disabled ∧ (∃ r, s.pllRes = some r) ∧ clkOutcome s = false :=
  ⟨{ fresh .new .shared with clkAnswers := [false], pllRes := some resultC11 }, rfl, ⟨_, rfl⟩, rfl⟩

theorem witness_EnableLegacyRunsToSettleDelay :
    ∃ s : State, s.seqState = .disabled ∧ s.cfg.topo = .legacy ∧ clkOutcome s = true :=
  ⟨{ fresh .new .legacy with clkAnswers := [true] }, rfl, rfl, rfl⟩

/-- A block in its settle delay. -/
def paused : State := { fresh .new .legacy with busy := true, upc := .enLReady, timer := .running 150 }

theorem witness_SettleDelayEndsEnabled :
    ∃ (s : State) (t : Nat), s.attached = true ∧ s.faulted = none ∧ s.moves = []
      ∧ s.upc = .enLReady ∧ s.timer = .running t :=
  ⟨paused, 150, rfl, rfl, rfl, rfl, rfl⟩

/-- The same pause with `wait` moves, and a further move behind them. -/
theorem witness_SettleDelayEndsEnabled_wait :
    ∃ (s : State) (t : Nat) (rest : List Move), s.attached = true ∧ s.faulted = none
      ∧ s.moves = .wait :: .wait :: rest ∧ s.upc = .enLReady ∧ s.timer = .running t :=
  ⟨{ paused with moves := [.wait, .wait, .writeCmd 6] }, 150, [.writeCmd 6], rfl, rfl, rfl, rfl, rfl⟩

theorem witness_EnableSharedPowersUp :
    ∃ (s : State) (r : PllRegister), s.seqState = .disabled ∧ s.cfg.topo = .shared ∧ s.pllRes = some r
      ∧ clkOutcome s = true :=
  ⟨{ fresh .new .shared with clkAnswers := [true], pllRes := some resultC11 }, resultC11, rfl, rfl, rfl, rfl⟩

theorem witness_EnableSharedIgnoresTarget :
    ∃ s t : State, s.cfg.topo = .shared ∧ exec .enable s = .next t :=
  ⟨{ fresh .new .shared with clkAnswers := [true], pllRes := some resultC11 }, _, rfl, rfl⟩

theorem witness_BandsAreHalfOpen : bandThresh .old 3 ≤ bandThresh .old 3 := Nat.le_refl _

theorem witness_DisableTearsDownInOrder_legacy :
    ∃ s : State, s.seqState = .enabled ∧ s.cfg.topo = .legacy :=
  ⟨{ fresh .old .legacy with seqState := .enabled }, rfl, rfl⟩

theorem witness_DisableTearsDownInOrder_shared :
    ∃ (keep : Bool) (s : State), s.seqState = .enabled ∧ s.cfg.topo = .shared ∧ keep = false :=
  ⟨false, { fresh .old .shared with seqState := .enabled }, rfl, rfl, rfl⟩

theorem witness_DisableKeepSkipsTeardown :
    ∃ s : State, s.seqState = .enabled ∧ s.cfg.topo = .shared :=
  ⟨{ fresh .old .shared with seqState := .enabled }, rfl, rfl⟩

theorem witness_DisableKeepSkipsTeardown_legacy : (fresh .old .legacy).cfg.topo = .legacy := rfl

theorem witness_DisableWhileDisabledIsNoOp : (fresh .old .legacy).seqState = .disabled := rfl

theorem witness_QuietCommandsTouchNoHardware :
    ∃ s t : State, Instr.clamp ≠ .enable ∧ (∀ keep, Instr.clamp ≠ .disable keep) ∧ exec .clamp s = .next t :=
  ⟨fresh .old .legacy, _, by decide, by decide, rfl⟩

/-- Address 0 lies outside every register of a block whose `BASE` is 4096. -/
theorem witness_OtherBlockBytesStay :
    (∃ t, exec .enable { fresh .new .legacy with clkAnswers := [true] } = .next t)
      ∧ (∃ t, exec (.disable false) { fresh .new .legacy with seqState := .enabled } = .next t)
      ∧ ∀ r, ¬ (regAddress (fresh .new .legacy).cfg r ≤ 0 ∧ 0 < regAddress (fresh .new .legacy).cfg r + 4) := by
  refine ⟨⟨_, rfl⟩, ⟨_, rfl⟩, fun r h => ?_⟩
  have : (4096 : Nat) ≤ regAddress (fresh .new .legacy).cfg r := Nat.le_add_right _ _
  omega

theorem witness_OtherBlockBytesStay_detach :
    (detach { fresh .new .legacy with seqState := .enabled }).hist.length = 5
      ∧ ∀ r, ¬ (regAddress (fresh .new .legacy).cfg r ≤ 0 ∧ 0 < regAddress (fresh .new .legacy).cfg r + 4) :=
  ⟨rfl, witness_OtherBlockBytesStay.2.2⟩

theorem witness_RegisterWriteReadsBack :
    ∃ a, a ≠ regAddress (fresh .new .legacy).cfg (RegWrite.chan 1).reg :=
  ⟨_, Nat.succ_ne_self _⟩

theorem witness_PackingKeepsZeroAndNamedFields :
    pack .old .legacy (.chan 1) = pack .old .legacy (.chan 1) ∧ zeroEn.other = zeroEn.other := ⟨rfl, rfl⟩

theorem witness_UnwrittenReadsFault : Reg.chan ≠ (RegWrite.route 1).reg ∧ (fresh .old .legacy).pllRes = none := by
  decide

theorem witness_HostReadsPackedWords_invalid : (fresh .old .legacy).pllRes = none := rfl

theorem witness_HostReadsPackedWords_valid :
    { fresh .old .legacy with pllRes := some resultC11 }.pllRes = some resultC11 := rfl

theorem witness_HostReadsPackedWords_read :
    ∃ (s : State) (w : Word), s.attached = true ∧ s.faulted = none ∧ s.moves = [.read .clampOut]
      ∧ hostWord .clampOut s = some w :=
  ⟨{ fresh .old .legacy with moves := [.read .clampOut], clampOut := some 30000 }, 30000, rfl, rfl, rfl, rfl⟩

theorem witness_HostReadsPackedWords_unwritten :
    ∃ s : State, s.attached = true ∧ s.faulted = none ∧ s.moves = [.read .clampOut] ∧ hostWord .clampOut s = none :=
  ⟨{ fresh .old .legacy with moves := [.read .clampOut] }, rfl, rfl, rfl, rfl⟩

theorem witness_DetachLeavesDisabled_busy : { fresh .old .legacy with busy := true }.busy = true := rfl

theorem witness_DetachLeavesDisabled_disabled :
    (fresh .old .legacy).busy = false ∧ (fresh .old .legacy).seqState = .disabled := ⟨rfl, rfl⟩

theorem witness_DetachLeavesDisabled_enabled :
    ∃ s : State, s.busy = false ∧ s.seqState = .enabled := ⟨{ fresh .old .legacy with seqState := .enabled }, rfl, rfl⟩

theorem witness_DetachLeavesDisabled_step :
    ∃ s : State, s.attached = true ∧ s.faulted = none ∧ s.moves = [.detach] :=
  ⟨{ fresh .old .legacy with moves := [.detach] }, rfl, rfl, rfl⟩

theorem witness_DetachLeavesDisabled_gone : { fresh .old .legacy with attached := false }.attached = false := rfl

theorem witness_FaultMarkIsSticky : { fresh .old .legacy with faulted := some .busyIssue }.faulted = some .busyIssue := rfl

theorem witness_FaultMarkIsSticky_platform :
    ∃ (s : State) (blocks : List State), s.faulted = some .busyIssue ∧ s ∈ blocks ∧ blocks.length = 2 :=
  ⟨{ fresh .old .legacy with faulted := some .busyIssue },
    [fresh .new .shared, { fresh .old .legacy with faulted := some .busyIssue }], rfl, by simp, rfl⟩

/-- A lane whose resources are all there. -/
def goodLane : LaneDesc :=
  { gen := .old, topo := .legacy, lane := 0, region := some 4096, clkHandle := some 1, rstHandle := some 2, memory := true }

theorem witness_AttachLaneNeedsResources :
    goodLane.memory = true ∧ { goodLane with region := some 4098 }.memory = true
      ∧ attachLane .asserted .off { goodLane with region := some 4098 } = .error .resourceUnavailable := by
  decide

theorem witness_AllocationFailureLeavesNoBlock :
    (∃ d ∈ [goodLane, { goodLane with lane := 1, memory := false }], d.memory = false)
      ∧ ∀ d ∈ [goodLane, { goodLane with lane := 1, clkHandle := none }], d.memory = true := by
  decide

theorem witness_LanesStepIndependently :
    ∃ after, stepLane 1 [fresh .old .legacy, { fresh .new .shared with moves := [.writeFin 5] }] = .next after :=
  ⟨_, rfl⟩

theorem witness_AttachMeetsInvariant : (fresh .old .legacy).cfg.base % 4 = 0 := by decide

/-- A block right after attach meets the invariant, whatever moves and answers are to come. -/
theorem fresh_meets_invariant (g : Gen) (t : Topo) (ms : List Move) (oks : List Bool) :
    BlockInv { fresh g t with moves := ms, clkAnswers := oks } := by
  constructor <;> simp [fresh, State.attach, HazardFree, busView, BusView.start, modeReset_inModes]

/-- A block that the invariant holds of and that takes a step: about to run `ENABLE`. -/
theorem witness_StepKeepsInvariant :
    ∃ s t : State, BlockInv s ∧ step s = .next t ∧ t.busy = true :=
  ⟨{ fresh .old .legacy with moves := [.writeCmd 5], clkAnswers := [true] }, _, fresh_meets_invariant _ _ _ _, rfl, rfl⟩

/-- A run that reaches `ENABLED`: a legacy power-up from attach, paused and resumed. -/
theorem witness_EveryRunRestsAsR42Says :
    ∃ t, Host.Core.run Sys2Proof.core 3
        { fresh .old .legacy with moves := [.writeCmd 5], clkAnswers := [true], settleDraws := [0] } = .next t
      ∧ (fresh .old .legacy).cfg.base % 4 = 0 ∧ t.faulted = none ∧ t.busy = false ∧ t.seqState = .enabled :=
  ⟨_, rfl, rfl, rfl, rfl, rfl⟩

/-- A run that ends `DISABLED` after events: a clock failure. -/
theorem witness_EveryRunRestsAsR42Says_disabled :
    ∃ t, Host.Core.run Sys2Proof.core 1
        { fresh .old .legacy with moves := [.writeCmd 5], clkAnswers := [false] } = .next t
      ∧ t.faulted = none ∧ t.busy = false ∧ t.seqState = .disabled :=
  ⟨_, rfl, rfl, rfl, rfl⟩

theorem witness_EveryRunIsHazardFree :
    ∃ t, (fresh .old .legacy).cfg.base % 4 = 0 ∧ Host.Core.run Sys2Proof.core 2
        { fresh .old .legacy with moves := [.writeCmd 5], clkAnswers := [true], settleDraws := [50] } = .next t :=
  ⟨_, rfl, rfl⟩

theorem witness_HistoryOnlyGrows :
    ∃ s t : State, step s = .next t ∧ s.busy = true ∧ t.busy = true :=
  ⟨{ fresh .old .legacy with busy := true, upc := .enLReady, timer := .running 100 }, _, rfl, rfl, rfl⟩

theorem witness_FailedCommandsChangeLittle :
    ∃ s t : State, exec .enable s = .next t ∧ t.faulted = none ∧ t.busy = false ∧ t.status ≠ .ok :=
  ⟨{ fresh .old .legacy with clkAnswers := [false] }, _, rfl, rfl, rfl, by decide⟩

theorem witness_OperandWritesSetOneLatch_fin :
    ∃ (s : State) (w : Word) (rest : List Move), s.attached = true ∧ s.faulted = none ∧ s.busy = true
      ∧ s.moves = .writeFin w :: rest :=
  ⟨{ paused with moves := [.writeFin 5] }, 5, [], rfl, rfl, rfl, rfl⟩

theorem witness_OperandWritesSetOneLatch_target :
    ∃ (s : State) (w : Word) (rest : List Move), s.attached = true ∧ s.faulted = none
      ∧ s.moves = .writeTarget w :: rest :=
  ⟨{ fresh .old .legacy with moves := [.writeTarget 5] }, 5, [], rfl, rfl, rfl⟩

theorem witness_WaitLetsTheMachineAdvance :
    ∃ s : State, s.attached = true ∧ s.faulted = none ∧ Claim.NoHostMove s [.detach] ∧ s.upc ≠ .enLReady
      ∧ s.timer = .idle :=
  ⟨{ fresh .old .legacy with moves := [.wait, .detach] }, rfl, rfl, .inr rfl, by decide, rfl⟩

theorem witness_TimerStepEndsDelay :
    ∃ s : State, s.attached = true ∧ s.faulted = none ∧ Claim.NoHostMove s [.detach] ∧ s.upc = .enLReady
      ∧ s.timer = .running 150 :=
  ⟨{ paused with moves := [.wait, .detach] }, rfl, rfl, .inr rfl, rfl, rfl⟩

theorem witness_TimerStepEndsDelay_empty :
    paused.attached = true ∧ paused.faulted = none ∧ Claim.NoHostMove paused [] ∧ paused.upc = .enLReady
      ∧ paused.timer = .running 150 :=
  ⟨rfl, rfl, .inl ⟨rfl, rfl⟩, rfl, rfl⟩

theorem witness_ResumeStepEndsPowerUp :
    ∃ s : State, s.attached = true ∧ s.faulted = none ∧ Claim.NoHostMove s [] ∧ s.cfg.topo = .legacy
      ∧ s.upc = .enLReady ∧ s.timer = .ended :=
  ⟨{ paused with timer := .ended }, rfl, rfl, .inl ⟨rfl, rfl⟩, rfl, rfl, rfl⟩

/-- A read of `CLAMP_OUT` during the pause, before any `CLAMP`: the one that faults. -/
theorem witness_ReadsAndOperandWritesKeepThePause :
    ∃ (s : State) (m : Move) (rest : List Move), s.attached = true ∧ s.faulted = none ∧ s.busy = true
      ∧ s.moves = m :: rest ∧ (∃ r, m = .read r) ∧ s.clampOut = none :=
  ⟨{ paused with moves := [.read .clampOut, .wait] }, _, _, rfl, rfl, rfl, rfl, ⟨_, rfl⟩, rfl⟩

theorem witness_PllResIsReadAtOnce :
    ∃ (s : State) (rest : List Move), s.attached = true ∧ s.faulted = none ∧ s.moves = .readPllRes :: rest
      ∧ s.pllRes = some resultC11 :=
  ⟨{ fresh .old .legacy with moves := [.readPllRes], pllRes := some resultC11 }, [], rfl, rfl, rfl, rfl⟩

/-- An idle lane beside one in its settle delay: the run has not ended (R272). -/
theorem witness_RunEndsWhenEveryLaneRests :
    BlockEnded (fresh .old .legacy) ∧ ¬ RunEnded [fresh .old .legacy, paused] ∧ RunEnded [fresh .old .legacy] := by
  simp [RunEnded, BlockEnded, fresh, paused, State.attach]

/-- `REG_EN` as a legacy power-up leaves it before its settle delay. -/
def enPaused : EnFields := { bias := true, lvEn := true, pllEn := true, ready := false, other := 0 }

theorem witness_RunEndsWhenEveryLaneRests_paused :
    ∃ (blocks : List State) (s : State), blocks[1]? = some s ∧ Paused s :=
  ⟨[fresh .old .legacy,
    { paused with hist := [.resetDeassert, .clkEnable true, .regWrite (.en enPaused), .delay 150],
                  dev := { DeviceRegs.unwritten with en := some enPaused } }], _, rfl,
    rfl, rfl, rfl, rfl, ⟨150, by decide, by decide, rfl, .inl rfl⟩, rfl, rfl, rfl, enPaused, rfl, rfl, rfl, rfl, rfl⟩

/-- Two lanes that meet the invariant, and a schedule that leaves the second powered and ends the run. -/
theorem witness_PlatformRunKeepsEveryInvariant :
    ∃ blocks after : List State, (∀ s ∈ blocks, BlockInv s) ∧ runLanes [1, 0, 1, 1] blocks = .next after
      ∧ RunEnded after ∧ after.map (fun s => s.seqState) = [.disabled, .enabled] := by
  refine ⟨[{ fresh .old .legacy with moves := [.writeFin 5] },
    { fresh .new .legacy with moves := [.writeCmd 5], clkAnswers := [true] }], _, ?_, rfl, ?_, rfl⟩
  · simpa using ⟨fresh_meets_invariant .old .legacy [.writeFin 5] [],
      fresh_meets_invariant .new .legacy [.writeCmd 5] [true]⟩
  · intro s hs
    rcases List.mem_cons.mp hs with rfl | hs
    · exact ⟨rfl, rfl, rfl⟩
    · rcases List.mem_singleton.mp hs with rfl
      exact ⟨rfl, rfl, rfl⟩

end Sys2Proof.Tests
end

section
/-! PROOFS. The scope statements: what one step of a live block does with the next host move, and what
a step does that has no host move, an operand write or a read in front (R11, R12, R58). -/

namespace Sys2Proof.Machine

/-! ### A step of a live block, by the front of its queue -/

/-- A live block with an empty queue advances by itself. -/
theorem step_of_moves_nil {s : State} (ha : s.attached = true) (hf : s.faulted = none) (hm : s.moves = []) :
    step s = .next (advance s) := by
  simp [step, takeMove, ha, hf, hm]

/-- A live block makes the move in front, in the state that has used it up. -/
theorem step_of_moves_cons {s : State} {m : Move} {rest : List Move} (ha : s.attached = true)
    (hf : s.faulted = none) (hm : s.moves = m :: rest) :
    step s = makeMove m { s with moves := rest } := by
  simp [step, takeMove, ha, hf, hm]

/-- An empty queue and a `wait` in front come to the same: the machine advances (log entry 1). -/
theorem step_of_noHostMove {s : State} {rest : List Move} (ha : s.attached = true) (hf : s.faulted = none)
    (hno : Claim.NoHostMove s rest) : step s = .next (advance { s with moves := rest }) := by
  obtain ⟨hm, rfl⟩ | hm := hno
  · rw [step_of_moves_nil ha hf hm, ← hm]
  · rw [step_of_moves_cons ha hf hm, makeMove_wait]

/-! ### The timer and the block -/

/-- With no settle delay under way neither the timer nor the block has a step (R194, R271). -/
theorem advance_of_no_delay {s : State} (h : s.upc ≠ .enLReady ∨ s.timer = .idle) : advance s = s := by
  obtain ⟨t, hu, ht, -⟩ | ⟨hu, ht, -⟩ | ⟨-, hs⟩ := advance_cases s
  · simp [hu, ht] at h
  · simp [hu, ht] at h
  · exact hs

/-! ### The statements -/

/-- Settles O49: `step_of_noHostMove` gives the step, `advance_of_no_delay` the case where nothing happens. -/
theorem waitLetsTheMachineAdvance : Obligations.WaitLetsTheMachineAdvance := by
  intro s rest ha hf hno
  have hstep := step_of_noHostMove ha hf hno
  exact ⟨hstep, fun hidle => hstep.trans (congrArg _ (advance_of_no_delay hidle))⟩

/-- Settles O52, by cases on the move. Only a word read can set the fault mark, on the second path of
`hostRead_cases`. -/
theorem readsAndOperandWritesKeepThePause : Obligations.ReadsAndOperandWritesKeepThePause := by
  intro s m rest ha hf hm hkind
  rw [step_of_moves_cons ha hf hm]
  obtain ⟨w, rfl⟩ | ⟨w, rfl⟩ | ⟨r, rfl⟩ | rfl := hkind
  · exact ⟨w, s.argTarget, s.hostData, s.faulted, makeMove_writeFin w _, .inl hf⟩
  · exact ⟨s.argFin, w, s.hostData, s.faulted, makeMove_writeTarget w _, .inl hf⟩
  · rw [makeMove_read]
    obtain ⟨w, -, hread⟩ | ⟨rfl, hclamp, hread⟩ := hostRead_cases r { s with moves := rest }
    · exact ⟨s.argFin, s.argTarget, some (.word r w), s.faulted, congrArg _ hread, .inl hf⟩
    · exact ⟨s.argFin, s.argTarget, s.hostData, some .unwrittenRead, congrArg _ hread, .inr ⟨rfl, hclamp, rfl⟩⟩
  · exact ⟨s.argFin, s.argTarget, _, s.faulted, makeMove_readPllRes _, .inl hf⟩

end Sys2Proof.Machine
end

section
/-! PROOFS. The facts the invariant rests on: the six forms of a move, the device registers and lines as the history
says they are, and the legality of every search result. -/

namespace Sys2Proof.Machine

/-! ### What one move can do, in six forms -/

/-- The ways in which one move turns a state into the next: the host writes an operand or reads, a fault is
raised, an illegal word ends at once, a command runs, the block is detached, or the machine advances. -/
inductive MoveEffect (s : State) : State → Prop
  | host (fin target : Word) (data : Option HostData) :
      MoveEffect s { s with argFin := fin, argTarget := target, hostData := data }
  | fault (reason : FaultReason) : MoveEffect s (raise reason s)
  | illegal (w : Word) (idle : s.busy = false) : MoveEffect s (finish .illegalCommand (latch w s))
  | command (w : Word) (i : Instr) (t : State) (idle : s.busy = false) (run : exec i (latch w s) = .next t) :
      MoveEffect s t
  | detach (idle : s.busy = false) : MoveEffect s (detach s)
  | advance : MoveEffect s (advance s)

/-- A write of `CMD` raises `BUSY_ISSUE`, runs a command, or ends as illegal (R70). -/
theorem issue_effect {w : Word} {s t : State} (h : issue w s = .next t) : MoveEffect s t := by
  obtain ⟨-, hissue⟩ | ⟨i, hidle, -, hissue⟩ | ⟨e, hidle, -, hissue⟩ := issue_cases w s
  · cases hissue.symm.trans h; exact .fault _
  · exact .command w i t hidle (hissue.symm.trans h)
  · cases hissue.symm.trans h; exact .illegal w hidle

/-- A host read stores what was read, or raises `UNWRITTEN_READ` (R75). -/
theorem hostRead_effect (r : HostReg) (s : State) : MoveEffect s (hostRead r s) := by
  obtain ⟨w, -, hread⟩ | ⟨-, -, hread⟩ := hostRead_cases r s
  · rw [hread]; exact .host _ _ _
  · rw [hread]; exact .fault _

/-- A detach faults while busy and otherwise removes the block (R253). -/
theorem detach_effect (s : State) : MoveEffect s (detach s) := by
  obtain ⟨-, hdet⟩ | ⟨hidle, -, -⟩ | ⟨hidle, -, -⟩ := detach_cases s
  · rw [hdet]; exact .fault _
  · exact .detach hidle
  · exact .detach hidle

/-- Every move that answers next has one of the six forms. -/
theorem makeMove_effect {m : Move} {s t : State} (h : makeMove m s = .next t) : MoveEffect s t := by
  cases m with
  | writeFin w => cases h; exact .host _ _ _
  | writeTarget w => cases h; exact .host _ _ _
  | writeCmd w => exact issue_effect h
  | read r => cases h; exact hostRead_effect r s
  | readPllRes => cases h; exact .host _ _ _
  | detach => cases h; exact detach_effect s
  | wait => cases h; exact .advance

/-- A step that answers next makes a move in an unfaulted block, from the state with the queue moved on. -/
theorem step_effect {s t : State} (h : step s = .next t) :
    s.faulted = none ∧ ∃ rest, MoveEffect { s with moves := rest } t := by
  obtain ⟨-, hf, ⟨-, rfl⟩ | ⟨m, rest, -, hmove⟩⟩ := step_cases h
  · exact ⟨hf, s.moves, .advance⟩
  · exact ⟨hf, rest, makeMove_effect hmove⟩

/-! ### What the history says after one more event -/

@[simp] theorem busView_nil (t : Topo) : busView t [] = .start := rfl

@[simp] theorem busView_append (t : Topo) (h evs : List Event) :
    busView t (h ++ evs) = evs.foldl (BusView.after t) (busView t h) :=
  List.foldl_append

/-- The device registers and the lines are as the history says. -/
def Tracks (s : State) : Prop :=
  s.dev = (busView s.cfg.topo s.hist).dev
    ∧ (∀ l, (busView s.cfg.topo s.hist).rst = some l → s.rst = l)
    ∧ (∀ l, (busView s.cfg.topo s.hist).clk = some l → s.clk = l)

/-- Every event moves the block and what the history says of it together. -/
theorem tracks_emit {s : State} (h : Tracks s) (ev : Event) : Tracks (emit ev s) := by
  obtain ⟨hdev, hrst, hclk⟩ := h
  unfold Tracks
  simp only [emit_cfg, emit_hist, busView_append, List.foldl_cons, List.foldl_nil]
  cases ev with
  | resetDeassert => exact ⟨hdev, fun _ => Option.some.inj, hclk⟩
  | clkEnable ok =>
    cases ok with
    | true => exact ⟨hdev, hrst, fun _ => Option.some.inj⟩
    | false => exact ⟨hdev, hrst, hclk⟩
  | regWrite w => exact ⟨congrArg (·.write w) hdev, hrst, hclk⟩
  | delay t => exact ⟨hdev, hrst, hclk⟩
  | clkDisable => exact ⟨hdev, hrst, fun _ => Option.some.inj⟩
  | resetAssert => exact ⟨hdev, fun _ => Option.some.inj, hclk⟩

/-- A sequence of micro-steps does too. -/
theorem tracks_runSteps {s : State} (h : Tracks s) (steps : List (Upc × Event)) : Tracks (runSteps steps s) := by
  induction steps generalizing s with
  | nil => exact h
  | cons p rest ih => exact ih (tracks_emit (s := { s with upc := p.1 }) h p.2)

/-- The record that an event writes to `REG_EN`, if it writes one. -/
def enRecord : Event → Option EnFields
  | .regWrite (.en v) => some v
  | _ => none

/-- What the history says `REG_EN` holds is the last record written to it. -/
theorem busView_dev_en (t : Topo) (h : List Event) :
    (busView t h).dev.en = (h.filterMap enRecord).getLast? := by
  induction h using List.reverseRecOn with
  | nil => rfl
  | append_singleton h ev ih =>
    rw [busView_append, List.filterMap_append, List.getLast?_append, ← ih]
    cases ev with
    | regWrite w => cases w <;> rfl
    | _ => rfl

/-! ### Every search result is legal (R24) -/

/-- The bounds R24 sets on a result, before it is narrowed to the fields of `PLLRES`. -/
def PllResult.Legal (r : PllResult) : Prop :=
  59 ≤ r.n ∧ r.n ≤ 119 ∧ r.m ≤ 6 ∧ 1 ≤ r.div ∧ r.div ≤ 64 ∧ r.freq ≤ 148500000

/-- The candidate of a legal pair is legal: the pre-divider limit is 7 times the frequency bound. -/
theorem candidate_legal {fin target : Nat} {e : Bool} {np1 mp1 div : Nat} (hpair : (np1, mp1) ∈ pairs)
    (hlegal : legalPair fin e np1 mp1 = true) (hdiv : div ∈ divs) :
    (candidate fin target e np1 mp1 div).Legal := by
  obtain ⟨hn₁, hn₂, hm₁, hm₂⟩ := mem_pairs.mp hpair
  obtain ⟨hd₁, hd₂⟩ := mem_divs.mp hdiv
  have hpre : foutPre e (fvco fin np1 mp1) ≤ 1039500000 := by
    obtain ⟨-, -, -, -, hpre⟩ := legalPair_iff.mp hlegal
    simpa only [foutPre, fvco, extraDiv] using hpre
  have hfout : fout fin e np1 mp1 ≤ 148500000 := by unfold fout postDiv; omega
  have hfreq : fout fin e np1 mp1 / div ≤ 148500000 := (Nat.div_le_self _ _).trans hfout
  simp only [PllResult.Legal, candidate]
  exact ⟨by omega, by omega, by omega, hd₁, hd₂, hfreq⟩

/-- What is true of the best result so far and of a candidate is true of the better of the two. -/
theorem better_forall {P : PllResult → Prop} {best : Option PllResult} {c : PllResult}
    (hbest : ∀ b ∈ best, P b) (hc : P c) : ∀ b ∈ better best c, P b := by
  obtain ⟨h, -⟩ | ⟨-, -, h, -⟩ := better_cases best c
  · simpa [h] using hc
  · rwa [h]

/-- The inner loop gives the best result so far or a candidate of one of its dividers. -/
theorem scanDivs_forall {P : PllResult → Prop} {fin target : Nat} {e : Bool} {np1 mp1 : Nat} {ds : List Nat}
    {best : Option PllResult} (hcand : ∀ d ∈ ds, P (candidate fin target e np1 mp1 d))
    (hbest : ∀ b ∈ best, P b) : ∀ r ∈ scanDivs fin target e np1 mp1 ds best, P r := by
  induction ds generalizing best with
  | nil => exact hbest
  | cons d ds ih =>
    have hbest' := better_forall hbest (hcand d List.mem_cons_self)
    simp only [scanDivs]
    split
    · exact hbest'
    · exact ih (fun d' hd' => hcand d' (List.mem_cons_of_mem _ hd')) hbest'

/-- The outer loops give the best result so far or a candidate of a legal pair. -/
theorem scanPairs_forall {P : PllResult → Prop} {fin target : Nat} {e : Bool} {ps : List (Nat × Nat)}
    {best : Option PllResult}
    (hcand : ∀ p ∈ ps, legalPair fin e p.1 p.2 = true → ∀ d ∈ divs, P (candidate fin target e p.1 p.2 d))
    (hbest : ∀ b ∈ best, P b) : ∀ r ∈ scanPairs fin target e ps best, P r := by
  induction ps generalizing best with
  | nil => exact hbest
  | cons p ps ih =>
    have hrest := fun q hq => hcand q (List.mem_cons_of_mem p hq)
    simp only [scanPairs]
    split
    · rename_i hlegal
      have hbest' := scanDivs_forall (hcand p List.mem_cons_self hlegal) hbest
      split
      · exact hbest'
      · exact ih hrest hbest'
    · exact ih hrest hbest

/-- A search result keeps the bounds of R24. -/
theorem search_legal {fin target : Nat} {e : Bool} : ∀ r ∈ search fin target e, r.Legal := by
  unfold search
  split
  · simp
  · exact scanPairs_forall (fun _ hp hlegal _ hd => candidate_legal hp hlegal hd) (by simp)

/-- So does the result of `PLL_CALC`, which is that of one of two searches. -/
theorem pllCalcResult_legal {fin target : Nat} : ∀ r ∈ pllCalcResult fin target, r.Legal := by
  unfold pllCalcResult
  obtain ⟨-, h⟩ | ⟨-, h⟩ | ⟨b0, b1, -, h1, -, h⟩ | ⟨b0, b1, h0, -, -, h⟩ :=
    select_cases (search fin target false) (search fin target true)
  · rw [h]; exact search_legal
  · rw [h]; exact search_legal
  · rw [h, ← h1]; exact search_legal
  · rw [h, ← h0]; exact search_legal

/-- Narrowing to the fields of `PLLRES` loses nothing of a legal result (R76). -/
theorem PllResult.Legal.toRegister {r : PllResult} (h : r.Legal) : LegalResult (toRegister r) := by
  obtain ⟨hn₁, hn₂, hm, hd₁, hd₂, hf⟩ := h
  have hn : r.n % 2 ^ 7 = r.n := Nat.mod_eq_of_lt (by omega)
  have hm' : r.m % 2 ^ 3 = r.m := Nat.mod_eq_of_lt (by omega)
  have hd : r.div % 2 ^ 7 = r.div := Nat.mod_eq_of_lt (by omega)
  have hf' : r.freq % 2 ^ 32 = r.freq := Nat.mod_eq_of_lt (by omega)
  simp only [LegalResult, Machine.toRegister, BitVec.toNat_ofNat, hn, hm', hd, hf']
  exact ⟨hn₁, hn₂, hm, hd₁, hd₂, hf⟩

end Sys2Proof.Machine
end

section
/-! PROOFS. The invariant of a block in parts: what holds at every moment, also inside a command (`Consistent`),
and what holds between two commands (`AtRest`). The queue, the latches and the draws take no part in it. -/

namespace Sys2Proof.Machine

/-! ### The invariant in parts -/

/-- The clauses about fields that no bus event touches (R24, R57, R23, R161). -/
def ValuesLegal (s : State) : Prop :=
  s.cfg.base % 4 = 0 ∧ (∀ r, s.pllRes = some r → LegalResult r) ∧ inModes s.mode.toNat = true
    ∧ ∀ w, s.clampOut = some w → clampMin s.cfg.gen ≤ w.toNat ∧ w.toNat ≤ clampMax s.cfg.gen

/-- The clauses that hold at every moment, also inside a command. -/
def Consistent (s : State) : Prop := ValuesLegal s ∧ Tracks s ∧ HazardFree s.cfg.topo s.hist

/-- Where a disabled block may rest (R42). -/
def DownOrKept (s : State) : Prop :=
  s.hist = [] ∨ s.hist.getLast? = some .resetAssert ∨ (s.cfg.topo = .shared ∧ Powered s)

/-- What the invariant says of a block between two commands, but for `BUSY` and `UPC`, which the end of the
command writes. -/
def AtRest (s : State) : Prop :=
  Consistent s ∧ s.timer = .idle ∧ (s.seqState = .enabled → Powered s ∧ s.lockKnown = true)
    ∧ (s.seqState = .disabled → DownOrKept s)

theorem BlockInv.consistent {s : State} (h : BlockInv s) : Consistent s :=
  ⟨⟨h.base_aligned, h.result_legal, h.mode_legal, h.clamp_legal⟩,
    ⟨h.dev_last_write, h.rst_last_driven, h.clk_last_driven⟩, h.hazard_free⟩

/-- The invariant from its parts: the clauses that always hold, and those about the three situations of a block. -/
theorem BlockInv.of_consistent {s : State} (h : Consistent s)
    (enabled : s.seqState = .enabled → Powered s ∧ s.busy = false ∧ s.lockKnown = true)
    (busy : s.faulted = none → s.busy = true → Paused s ∧ (s.timer = .ended → s.lockKnown = true))
    (idle : s.faulted = none → s.busy = false → s.upc = .idle ∧ s.timer = .idle)
    (disabled : s.faulted = none → s.busy = false → s.seqState = .disabled → DownOrKept s) : BlockInv s := by
  obtain ⟨⟨hbase, hres, hmode, hclamp⟩, ⟨hdev, hrst, hclk⟩, hsafe⟩ := h
  exact ⟨hbase, hsafe, hdev, hrst, hclk, hres, hmode, hclamp, enabled, busy, idle, disabled⟩

/-- An unfaulted block that is not busy is at rest. -/
theorem BlockInv.atRest {s : State} (h : BlockInv s) (hf : s.faulted = none) (hb : s.busy = false) : AtRest s := by
  obtain ⟨-, htimer⟩ := h.idle_rests hf hb
  refine ⟨h.consistent, htimer, fun hen => ?_, h.disabled_down hf hb⟩
  obtain ⟨hpow, -, hlock⟩ := h.enabled_powered hen
  exact ⟨hpow, hlock⟩

/-- A block at rest whose command has ended meets the invariant. -/
theorem AtRest.blockInv {s : State} (h : AtRest s) (hbusy : s.busy = false) (hupc : s.upc = .idle) :
    BlockInv s := by
  obtain ⟨hcons, htimer, hen, hdis⟩ := h
  refine .of_consistent hcons (fun he => ?_) (by simp [hbusy]) (fun _ _ => ⟨hupc, htimer⟩) (fun _ _ => hdis)
  obtain ⟨hpow, hlock⟩ := hen he
  exact ⟨hpow, hbusy, hlock⟩

theorem AtRest.blockInv_finish {s : State} (h : AtRest s) (st : Status) : BlockInv (finish st s) :=
  AtRest.blockInv (s := finish st s) h rfl rfl

/-- A power-up that waits in its settle delay meets the invariant. -/
theorem BlockInv.of_paused {s : State} (h : Consistent s) (hp : Paused s)
    (hlock : s.timer = .ended → s.lockKnown = true) : BlockInv s := by
  have ⟨hbusy, _, _, hdis, _⟩ := hp
  exact .of_consistent h (by simp [hdis]) (fun _ _ => ⟨hp, hlock⟩) (by simp [hbusy]) (by simp [hbusy])

/-- A stopped block keeps only what R42 says of every block. -/
theorem BlockInv.of_raise {s : State} (h : Consistent s)
    (enabled : s.seqState = .enabled → Powered s ∧ s.busy = false ∧ s.lockKnown = true) (r : FaultReason) :
    BlockInv (raise r s) :=
  .of_consistent (s := raise r s) h enabled (by simp) (by simp) (by simp)

/-- The invariant says nothing of the queue, the operand latches, the host's data and the block's existence. -/
theorem BlockInv.hostFields {s : State} (h : BlockInv s) (moves : List Move) (fin target : Word)
    (data : Option HostData) (att : Bool) :
    BlockInv { s with moves := moves, argFin := fin, argTarget := target, hostData := data, attached := att } :=
  .of_consistent h.consistent h.enabled_powered h.busy_paused h.idle_rests h.disabled_down

/-- Nor of the clock answers and the settle durations still to come. -/
theorem BlockInv.environment {s : State} (h : BlockInv s) (moves : List Move) (oks : List Bool)
    (waits : List (Fin 51)) : BlockInv { s with moves := moves, clkAnswers := oks, settleDraws := waits } :=
  .of_consistent h.consistent h.enabled_powered h.busy_paused h.idle_rests h.disabled_down

/-! ### Running micro-steps -/

/-- A sequence of micro-steps leaves a block consistent if it adds no hazard to the history. -/
theorem consistent_runSteps {s : State} {steps : List (Upc × Event)} (h : Consistent s)
    (hsafe : HazardFree (runSteps steps s).cfg.topo (runSteps steps s).hist) : Consistent (runSteps steps s) := by
  obtain ⟨hvals, htracks, -⟩ := h
  exact ⟨by simpa [ValuesLegal] using hvals, tracks_runSteps htracks steps, hsafe⟩

end Sys2Proof.Machine
end

section
/-! PROOFS. What the history, the timer and the lock are after the micro-steps of a power-up and a teardown. -/

namespace Sys2Proof.Machine

/-! ### What the history says along the sequences -/

/-- No hazard so far, the reset released and the clock on: a register write is then no hazard either (R260). -/
def BusView.Live (b : BusView) : Prop := b.rst = some .deasserted ∧ b.clk = some .on ∧ b.safe = true

/-- Live, the PLL settled, and the record `v` in `REG_EN`. -/
def BusView.Settled (b : BusView) (v : EnFields) : Prop := b.Live ∧ b.settled = true ∧ b.dev.en = some v

theorem BusView.Settled.hazardFree {t : Topo} {h : List Event} {v : EnFields} (hset : (busView t h).Settled v) :
    HazardFree t h := by
  obtain ⟨⟨-, -, hsafe⟩, -, -⟩ := hset
  exact hsafe

/-- The records that the last writes of a power-up leave in `REG_EN` (R34, R141, R142). -/
def powerUpEn (s : State) (bias ready : Bool) : EnFields :=
  { bias := bias, lvEn := true, pllEn := true, ready := ready, other := Config.enOther s.cfg.gen s.cfg.topo s.mode }

@[simp] theorem startClock_cfg (s : State) : (startClock s).cfg = s.cfg := by simp [startClock]
@[simp] theorem startClock_seqState (s : State) : (startClock s).seqState = s.seqState := by simp [startClock]
@[simp] theorem startClock_timer (s : State) : (startClock s).timer = s.timer := rfl

/-- With the clock controller's consent the start of a power-up leaves the block live (R140). -/
theorem live_startClock {s : State} (hsafe : HazardFree s.cfg.topo s.hist) (hok : clkOutcome s = true) :
    (busView (startClock s).cfg.topo (startClock s).hist).Live := by
  have hsafe : (busView s.cfg.topo s.hist).safe = true := hsafe
  simp [startClock, BusView.Live, BusView.after, hok, hsafe]

/-- The settle delay settles the PLL that the write before it has started (R141). -/
theorem settled_legacySteps {s t : State} (ht : t = runSteps (commonSteps s ++ legacySteps s (targetKHz s)) s)
    (htopo : s.cfg.topo = .legacy) (hlive : (busView s.cfg.topo s.hist).Live) :
    (busView t.cfg.topo t.hist).Settled (powerUpEn s true false) := by
  obtain ⟨hrst, hclk, hsafe⟩ := hlive
  rw [htopo] at hrst hclk hsafe
  have ⟨hmin, hmax⟩ := settleTime_bounds s
  simp [ht, BusView.Settled, BusView.Live, BusView.after, commonSteps, legacySteps, routeWrite, chanWrite, enWrite,
    powerUpEn, settledAfter, readyAllowed, pllOn, DeviceRegs.write, htopo, hrst, hclk, hsafe, hmin, hmax]

/-- The write that starts a `SHARED` PLL settles it, before `READY` is written (R142). -/
theorem settled_sharedSteps {s t : State} {r : PllRegister} (ht : t = runSteps (commonSteps s ++ sharedSteps s r) s)
    (htopo : s.cfg.topo = .shared) (hlive : (busView s.cfg.topo s.hist).Live) :
    (busView t.cfg.topo t.hist).Settled (powerUpEn s false true) := by
  obtain ⟨hrst, hclk, hsafe⟩ := hlive
  rw [htopo] at hrst hclk hsafe
  simp [ht, BusView.Settled, BusView.Live, BusView.after, commonSteps, sharedSteps, routeWrite, chanWrite, enWrite,
    powerUpEn, settledAfter, readyAllowed, DeviceRegs.write, htopo, hrst, hclk, hsafe]

/-- `READY` may be written once the PLL has settled (R141, R262). -/
theorem settled_readyWrite {s t : State} {v : EnFields}
    (ht : t = microStep .enLReady (enWrite s true true true true) s) (htopo : s.cfg.topo = .legacy)
    (hset : (busView s.cfg.topo s.hist).Settled v) :
    (busView t.cfg.topo t.hist).Settled (powerUpEn s true true) := by
  obtain ⟨⟨hrst, hclk, hsafe⟩, hset, -⟩ := hset
  rw [htopo] at hrst hclk hsafe hset
  simp [ht, BusView.Settled, BusView.Live, BusView.after, enWrite, powerUpEn, settledAfter, readyAllowed,
    DeviceRegs.write, htopo, hrst, hclk, hsafe, hset]

/-- The writes of a teardown come before the clock and the reset go down (R150). -/
theorem safe_teardownSteps {s t : State} (ht : t = runSteps (teardownSteps s) s)
    (hlive : (busView s.cfg.topo s.hist).Live) : HazardFree t.cfg.topo t.hist := by
  obtain ⟨hrst, hclk, hsafe⟩ := hlive
  simp [ht, HazardFree, BusView.after, teardownSteps, readyAllowed, zeroEn, hrst, hclk, hsafe]

/-! ### The timer and the lock along the sequences -/

@[simp] theorem microStep_delay_timer (u : Upc) (d : Nat) (s : State) :
    (microStep u (.delay d) s).timer = .running d := rfl
@[simp] theorem microStep_delay_busy (u : Upc) (d : Nat) (s : State) : (microStep u (.delay d) s).busy = true := rfl
@[simp] theorem microStep_regWrite_lockKnown (u : Upc) (w : RegWrite) (s : State) :
    (microStep u (.regWrite w) s).lockKnown = lockAfter s.cfg.topo s.lockKnown w := rfl

/-- Only a `DELAY` writes the settle timer and `BUSY` (R194). -/
theorem runSteps_of_no_delay {steps : List (Upc × Event)} (h : ∀ p ∈ steps, p.2.tag ≠ 3) (s : State) :
    (runSteps steps s).timer = s.timer ∧ (runSteps steps s).busy = s.busy := by
  induction steps generalizing s with
  | nil => exact ⟨rfl, rfl⟩
  | cons p rest ih =>
    obtain ⟨u, ev⟩ := p
    obtain ⟨htimer, hbusy⟩ := ih (fun q hq => h q (List.mem_cons_of_mem _ hq)) (microStep u ev s)
    rw [runSteps_cons, htimer, hbusy]
    cases ev with
    | delay t => exact absurd rfl (h _ List.mem_cons_self)
    | _ => exact ⟨rfl, rfl⟩

end Sys2Proof.Machine
end

section
/-! PROOFS. Every command, every move and every step keeps the invariant of a block. -/

namespace Sys2Proof.Machine

/-! ### The ends of the sequences, from what holds of the state they leave -/

/-- A block with everything on but `READY`, in its settle delay, meets the invariant (R141). -/
theorem blockInv_pause {u : State} {v : EnFields} {d : Nat} (h : Consistent u)
    (hset : (busView u.cfg.topo u.hist).Settled v)
    (hv : v.bias = true ∧ v.lvEn = true ∧ v.pllEn = true ∧ v.ready = false)
    (htopo : u.cfg.topo = .legacy) (hdis : u.seqState = .disabled) (hbusy : u.busy = true)
    (hd : 100 ≤ d ∧ d ≤ 150) (hlast : u.hist.getLast? = some (.delay d)) (htimer : u.timer = .running d) :
    BlockInv { consumeSettle u with upc := .enLReady } := by
  have ⟨_, ⟨hdev, _⟩, _⟩ := h
  obtain ⟨⟨hrst, hclk, -⟩, hset, hen⟩ := hset
  obtain ⟨hmin, hmax⟩ := hd
  refine .of_paused (s := { consumeSettle u with upc := .enLReady }) h ?_ (by simp [htimer])
  exact ⟨hbusy, rfl, htopo, hdis, ⟨d, hmin, hmax, hlast, .inl htimer⟩, hrst, hclk, hset, v, hdev ▸ hen, hv⟩

/-- A power-up whose last write has set `READY` ends with the block enabled and powered. -/
theorem blockInv_endEnabled {u : State} {v : EnFields} {timer : SettleTimer} (h : Consistent u)
    (hset : (busView u.cfg.topo u.hist).Settled v) (hv : v.lvEn = true ∧ v.pllEn = true ∧ v.ready = true)
    (hlock : u.lockKnown = true) (htimer : timer = .idle) :
    BlockInv (finish .ok { u with seqState := .enabled, timer := timer }) := by
  have ⟨_, ⟨hdev, _⟩, _⟩ := h
  obtain ⟨⟨hrst, hclk, -⟩, hset, hen⟩ := hset
  have hpow : Powered u := ⟨hrst, hclk, hset, v, hdev ▸ hen, hv⟩
  exact AtRest.blockInv_finish (s := { u with seqState := .enabled, timer := timer })
    ⟨h, htimer, fun _ => ⟨hpow, hlock⟩, nofun⟩ _

/-- A block whose last event is `RESET_ASSERT` may rest disabled (R42). -/
theorem atRest_of_resetAssert {u : State} (h : Consistent u) (htimer : u.timer = .idle)
    (hlast : u.hist.getLast? = some .resetAssert) : AtRest { u with seqState := .disabled } :=
  ⟨h, htimer, nofun, fun _ => .inr (.inl hlast)⟩

/-! ### Each path of `ENABLE` and `DISABLE` -/

theorem consistent_startClock {s : State} (h : Consistent s) : Consistent (startClock s) := by
  have ⟨_, _, hsafe⟩ := h
  exact consistent_runSteps (steps := [(.enRst, .resetDeassert), (.enClk, .clkEnable (clkOutcome s))]) h
    (by simpa [HazardFree, BusView.after] using hsafe)

/-- A clock failure ends with the reset asserted (R143). -/
theorem blockInv_clockFail {s : State} (h : Consistent s) (hidle : s.timer = .idle) (hdis : s.seqState = .disabled) :
    BlockInv (clockFail s) := by
  have ⟨_, _, hsafe⟩ := h
  have hcons : Consistent (microStep .enClkFail .resetAssert s) :=
    consistent_runSteps (steps := [(.enClkFail, .resetAssert)]) h (by simpa [HazardFree, BusView.after] using hsafe)
  exact AtRest.blockInv_finish ⟨hcons, hidle, by simp [hdis], fun _ => .inr (.inl (by simp))⟩ _

/-- A legacy power-up pauses in its settle delay (R141, R146). -/
theorem blockInv_legacyPowerUp {s : State} (h : Consistent s) (hlive : (busView s.cfg.topo s.hist).Live)
    (htopo : s.cfg.topo = .legacy) (hdis : s.seqState = .disabled) : BlockInv (legacyPowerUp s) := by
  have hset := settled_legacySteps rfl htopo hlive
  have hcons := consistent_runSteps h hset.hazardFree
  unfold legacyPowerUp
  refine blockInv_pause hcons hset ⟨rfl, rfl, rfl, rfl⟩ ?_ ?_ ?_ (settleTime_bounds s) ?_ ?_
  · rwa [runSteps_cfg]
  · rwa [runSteps_seqState]
  all_goals simp [commonSteps, legacySteps]

/-- A shared power-up runs to its end (R142). -/
theorem blockInv_sharedPowerUp {s : State} (r : PllRegister) (h : Consistent s)
    (hlive : (busView s.cfg.topo s.hist).Live) (htopo : s.cfg.topo = .shared) (hidle : s.timer = .idle) :
    BlockInv (sharedPowerUp r s) := by
  have hset := settled_sharedSteps (r := r) rfl htopo hlive
  have hcons := consistent_runSteps h hset.hazardFree
  have ⟨htimer, _⟩ := runSteps_of_no_delay (steps := commonSteps s ++ sharedSteps s r)
    (by simp [commonSteps, sharedSteps, routeWrite, chanWrite, enWrite, Event.tag]) s
  have hlock : (runSteps (commonSteps s ++ sharedSteps s r) s).lockKnown = true := by
    simp [commonSteps, sharedSteps, enWrite, lockAfter, htopo]
  unfold sharedPowerUp
  exact blockInv_endEnabled hcons hset ⟨rfl, rfl, rfl⟩ hlock (htimer.trans hidle)

/-- A teardown leaves the block at rest, with the reset asserted last (R150). -/
theorem atRest_teardown {s : State} (h : Consistent s) (hpow : Powered s) (hidle : s.timer = .idle) :
    AtRest (teardown s) ∧ (teardown s).busy = s.busy := by
  obtain ⟨hrst, hclk, -⟩ := hpow
  have ⟨_, _, hsafe⟩ := h
  have hcons := consistent_runSteps h (safe_teardownSteps rfl ⟨hrst, hclk, hsafe⟩)
  have ⟨htimer, hbusy⟩ := runSteps_of_no_delay (steps := teardownSteps s) (by simp [teardownSteps, Event.tag]) s
  have hlast : (runSteps (teardownSteps s) s).hist.getLast? = some .resetAssert := by simp [teardownSteps]
  unfold teardown
  exact ⟨atRest_of_resetAssert hcons (htimer.trans hidle) hlast, hbusy⟩

/-! ### Every command -/

theorem blockInv_enable {s : State} (h : AtRest s) : BlockInv (enable s) := by
  have ⟨hcons, hidle, _, _⟩ := h
  have ⟨_, _, hsafe⟩ := hcons
  have hstart := consistent_startClock hcons
  obtain ⟨-, he⟩ | ⟨hdis, -, -, he⟩ | ⟨hdis, -, -, he⟩ | ⟨hdis, htopo, hok, he⟩ | ⟨r, hdis, htopo, -, hok, he⟩ :=
    enable_cases s
  · rw [he]; exact h.blockInv_finish _
  · rw [he]; exact .of_raise hcons (by simp [hdis]) _
  · rw [he]; exact blockInv_clockFail hstart (by simpa) (by simpa)
  · rw [he]; exact blockInv_legacyPowerUp hstart (live_startClock hsafe hok) (by simpa) (by simpa)
  · rw [he]; exact blockInv_sharedPowerUp r hstart (live_startClock hsafe hok) (by simpa) (by simpa)

theorem blockInv_disable {s : State} (keep : Bool) (h : AtRest s) : BlockInv (disable keep s) := by
  have ⟨hcons, hidle, hen, _⟩ := h
  obtain ⟨-, hd⟩ | ⟨hena, htopo, -, hd⟩ | ⟨hena, -, hd⟩ := disable_cases keep s
  · rw [hd]; exact h.blockInv_finish _
  · obtain ⟨hpow, -⟩ := hen hena
    rw [hd]
    exact AtRest.blockInv_finish (s := { s with seqState := .disabled })
      ⟨hcons, hidle, nofun, fun _ => .inr (.inr ⟨htopo, hpow⟩)⟩ _
  · obtain ⟨hpow, -⟩ := hen hena
    obtain ⟨hrest, -⟩ := atRest_teardown hcons hpow hidle
    rw [hd]; exact hrest.blockInv_finish _

/-- A block at rest may take other legal values in the fields that no bus event touches. -/
theorem AtRest.withValues {s : State} (h : AtRest s) {res : Option PllRegister} {mode : BitVec 4}
    {clamp : Option Word} (hvals : ValuesLegal { s with pllRes := res, mode := mode, clampOut := clamp }) :
    AtRest { s with pllRes := res, mode := mode, clampOut := clamp } := by
  obtain ⟨⟨-, htracks, hsafe⟩, hidle, hen, hdis⟩ := h
  exact ⟨⟨hvals, htracks, hsafe⟩, hidle, hen, hdis⟩

theorem blockInv_writeResult {s : State} {r : Option PllResult} (h : AtRest s) (hr : ∀ p ∈ r, p.Legal) :
    BlockInv (writeResult r s) := by
  have ⟨⟨⟨hbase, _, hmode, hclamp⟩, _⟩, _⟩ := h
  obtain ⟨p, rfl, hw⟩ | ⟨-, hw⟩ := writeResult_cases r s
  · have hp : LegalResult (toRegister p) := (hr p rfl).toRegister
    rw [hw]
    exact (h.withValues (res := some (toRegister p)) ⟨hbase, by simpa using hp, hmode, hclamp⟩).blockInv_finish _
  · rw [hw]
    exact (h.withValues (res := none) ⟨hbase, by simp, hmode, hclamp⟩).blockInv_finish _

theorem blockInv_storeMode {s : State} (mode : Nat) (h : AtRest s) : BlockInv (storeMode mode s) := by
  have ⟨⟨⟨hbase, hres, _, hclamp⟩, _⟩, _⟩ := h
  obtain ⟨hin, hm⟩ | ⟨-, hm⟩ := storeMode_cases mode s
  · have hfits : (BitVec.ofNat 4 mode).toNat = mode := by
      simpa using Nat.mod_eq_of_lt (inModes_lt hin)
    rw [hm]
    exact (h.withValues (mode := .ofNat 4 mode) ⟨hbase, hres, by rwa [hfits], hclamp⟩).blockInv_finish _
  · rw [hm]; exact h.blockInv_finish _

/-- The clamped frequency fits `CLAMP_OUT` and keeps the bounds of R161. -/
theorem clampOut_bounds (g : Gen) (f : Nat) :
    clampMin g ≤ (BitVec.ofNat 32 (clampResult g f)).toNat
      ∧ (BitVec.ofNat 32 (clampResult g f)).toNat ≤ clampMax g := by
  obtain ⟨hle, hmax⟩ := clamp_table g
  have ⟨hlo, hhi⟩ := clampNat_bounds f _ _ hle
  rw [BitVec.toNat_ofNat, Nat.mod_eq_of_lt (by unfold clampResult; omega)]
  exact ⟨hlo, hhi⟩

theorem blockInv_clamp {s : State} (h : AtRest s) :
    BlockInv (finish .ok { s with clampOut := some (.ofNat 32 (clampResult s.cfg.gen (targetKHz s))) }) := by
  have ⟨⟨⟨hbase, hres, hmode, _⟩, _⟩, _⟩ := h
  have hclamp := clampOut_bounds s.cfg.gen (targetKHz s)
  exact (h.withValues (clamp := some (.ofNat 32 (clampResult s.cfg.gen (targetKHz s))))
    ⟨hbase, hres, hmode, fun w hw => Option.some.inj hw ▸ hclamp⟩).blockInv_finish _

/-- Every command takes a block at rest to one that meets the invariant. -/
theorem blockInv_exec {i : Instr} {s t : State} (h : AtRest s) (hrun : exec i s = .next t) : BlockInv t := by
  cases i with
  | synth e => cases hrun; exact blockInv_writeResult h search_legal
  | pllCalc => cases hrun; exact blockInv_writeResult h pllCalcResult_legal
  | clamp => cases hrun; exact blockInv_clamp h
  | setMode mode => cases hrun; exact blockInv_storeMode mode h
  | enable => cases hrun; exact blockInv_enable h
  | disable keep => cases hrun; exact blockInv_disable keep h

/-! ### The machine's own moves, and a detach -/

/-- An unfaulted block whose `UPC` is not `IDLE` is in its pause. -/
theorem BlockInv.paused_of_upc {s : State} (h : BlockInv s) (hf : s.faulted = none) (hupc : s.upc ≠ .idle) :
    Paused s ∧ (s.timer = .ended → s.lockKnown = true) := by
  cases hbusy : s.busy with
  | true => exact h.busy_paused hf hbusy
  | false =>
    obtain ⟨hidle, -⟩ := h.idle_rests hf hbusy
    exact absurd hidle hupc

/-- The end of the settle delay leaves the block paused. -/
theorem blockInv_endSettle {s : State} (h : Consistent s) (hp : Paused s) : BlockInv (endSettle s) := by
  obtain ⟨hbusy, hupc, htopo, hdis, ⟨d, hmin, hmax, hlast, -⟩, hbus⟩ := hp
  exact .of_paused (s := endSettle s) h ⟨hbusy, hupc, htopo, hdis, ⟨d, hmin, hmax, hlast, .inr rfl⟩, hbus⟩
    fun _ => rfl

/-- The resume step writes `READY` to a settled PLL. -/
theorem blockInv_resume {s : State} (h : Consistent s) (hp : Paused s) (hlock : s.lockKnown = true) :
    BlockInv (resume s) := by
  obtain ⟨-, -, htopo, -, -, hrst, hclk, hset, v, hen, -⟩ := hp
  have ⟨_, ⟨hdev, _⟩, hsafe⟩ := h
  have hset := settled_readyWrite rfl htopo ⟨⟨hrst, hclk, hsafe⟩, hset, hdev ▸ hen⟩
  have hcons : Consistent (microStep .enLReady (enWrite s true true true true) s) :=
    consistent_runSteps (steps := [(.enLReady, enWrite s true true true true)]) h hset.hazardFree
  unfold resume
  exact blockInv_endEnabled hcons hset ⟨rfl, rfl, rfl⟩ (by simp [enWrite, lockAfter, hlock]) rfl

/-- The timer and the block itself move only in a pause. -/
theorem blockInv_advance {s : State} (h : BlockInv s) (hf : s.faulted = none) : BlockInv (advance s) := by
  obtain ⟨d, hupc, -, ha⟩ | ⟨hupc, htimer, ha⟩ | ⟨-, ha⟩ := advance_cases s
  · obtain ⟨hp, -⟩ := h.paused_of_upc hf (by simp [hupc])
    rw [ha]; exact blockInv_endSettle h.consistent hp
  · obtain ⟨hp, hlock⟩ := h.paused_of_upc hf (by simp [hupc])
    rw [ha]; exact blockInv_resume h.consistent hp (hlock htimer)
  · rwa [ha]

theorem blockInv_detach {s : State} (h : BlockInv s) (hf : s.faulted = none) (hidle : s.busy = false) :
    BlockInv (detach s) := by
  obtain ⟨hbusy, -⟩ | ⟨-, hena, hd⟩ | ⟨-, -, hd⟩ := detach_cases s
  · simp [hidle] at hbusy
  · have ⟨hcons, htimer, hen, _⟩ := h.atRest hf hidle
    obtain ⟨hpow, -⟩ := hen hena
    obtain ⟨hrest, hbusy⟩ := atRest_teardown hcons hpow htimer
    rw [hd]
    generalize teardown s = u at *
    exact AtRest.blockInv (s := { u with upc := .idle, attached := false }) hrest (hbusy.trans hidle) rfl
  · rw [hd]; exact h.hostFields s.moves s.argFin s.argTarget s.hostData false

/-! ### Every step -/

/-- Each of the six forms of a move keeps the invariant of an unfaulted block. -/
theorem MoveEffect.keeps_blockInv {s t : State} (hmove : MoveEffect s t) (h : BlockInv s) (hf : s.faulted = none) :
    BlockInv t := by
  cases hmove with
  | host fin target data => exact h.hostFields s.moves fin target data s.attached
  | fault reason => exact .of_raise h.consistent h.enabled_powered reason
  | illegal w idle =>
    have hrest : AtRest (latch w s) := h.atRest hf idle
    exact hrest.blockInv_finish _
  | command w i t idle run =>
    have hrest : AtRest (latch w s) := h.atRest hf idle
    exact blockInv_exec hrest run
  | detach idle => exact blockInv_detach h hf idle
  | advance => exact blockInv_advance h hf

/-- Settles O42: a step is one of the six forms of a move, each of which keeps the invariant. -/
theorem stepKeepsInvariant : Obligations.StepKeepsInvariant := by
  intro s t h hstep
  obtain ⟨hf, rest, hmove⟩ := step_effect hstep
  exact hmove.keeps_blockInv (h.hostFields rest s.argFin s.argTarget s.hostData s.attached) hf

end Sys2Proof.Machine
end

section
/-! PROOFS. The statements about attach, the fault mark, reads and latches, the growth of the history, and whole
runs of one block and of a platform. -/

namespace Sys2Proof.Machine

/-! ### Attach and the fault mark -/

/-- Settles O38: each field of `State.attach` as R41 lists it. -/
theorem attachState : Obligations.AttachState :=
  ⟨fun _ _ _ => ⟨rfl, rfl, rfl, rfl, rfl, rfl, rfl, rfl, rfl, rfl, rfl, rfl, rfl⟩,
    .launch, Nat.mul_mod_right 4 Config.attachBaseWord, rfl⟩

theorem blockInv_attach {cfg : BlockConfig} (rst : ResetLine) (clk : ClockLine) (hbase : cfg.base % 4 = 0) :
    BlockInv (State.attach cfg rst clk) := by
  have hvals : ValuesLegal (State.attach cfg rst clk) := ⟨hbase, nofun, modeReset_inModes, nofun⟩
  have htracks : Tracks (State.attach cfg rst clk) := ⟨rfl, nofun, nofun⟩
  exact AtRest.blockInv ⟨⟨hvals, htracks, rfl⟩, rfl, nofun, fun _ => .inl rfl⟩ rfl rfl

/-- Settles O43: `State.reset` is the attach at an aligned `BASE`. -/
theorem attachMeetsInvariant : Obligations.AttachMeetsInvariant :=
  ⟨blockInv_attach _ _ (Nat.mul_mod_right 4 _), fun _ rst clk hbase => blockInv_attach rst clk hbase⟩

/-- A faulted block takes no step: it is stopped, or already detached (R28). -/
theorem step_of_faulted {s : State} {r : FaultReason} (hf : s.faulted = some r) : ∃ f, step s = .fault f := by
  cases ha : s.attached with
  | true => exact ⟨.stopped r, by simp [step, ha, hf]⟩
  | false => exact ⟨.noBlock, by simp [step, ha]⟩

/-- Settles O37. A faulted block is no ended block, so it keeps its run from ending. -/
theorem faultMarkIsSticky : Obligations.FaultMarkIsSticky := by
  refine ⟨rfl, raise_faulted, fun _ _ => step_of_faulted, ?_⟩
  intro s r blocks hf hmem hended
  obtain ⟨-, -, hnone⟩ := hended s hmem
  simp [hf] at hnone

/-! ### Reads of registers and writes of operands -/

theorem readDevice_of_held {d : DeviceRegs} {r : Reg} {w : RegWrite} (h : d.held r = some w) :
    readDevice r d = .ok w := by
  simp [readDevice, h]

/-- A device register reads by what it holds alone. -/
theorem readDevice_congr {d d' : DeviceRegs} {r : Reg} (h : d.held r = d'.held r) :
    readDevice r d = readDevice r d' := by
  simp only [readDevice, h]

/-- Settles O34, from what a device register holds after a write of it and of another one. -/
theorem unwrittenReadsFault : Obligations.UnwrittenReadsFault := by
  refine ⟨?_, fun d w => ⟨readDevice_of_held (held_write_same d w), ?_⟩, ?_⟩
  · intro cfg rst clk r
    cases r <;> rfl
  · exact fun r hr => readDevice_congr (held_write_other d w r hr)
  · intro s hnone
    simp [readPllRes, hnone]

/-- Settles O48: the move in front is the write of one operand latch. -/
theorem operandWritesSetOneLatch : Obligations.OperandWritesSetOneLatch := by
  intro s w rest ha hf
  exact ⟨fun hm => (step_of_moves_cons ha hf hm).trans (makeMove_writeFin w _),
    fun hm => (step_of_moves_cons ha hf hm).trans (makeMove_writeTarget w _)⟩

/-! ### The history only grows -/

/-- The configuration is the same and the history has only grown. -/
def Extends (s t : State) : Prop := t.cfg = s.cfg ∧ ∃ evs, t.hist = s.hist ++ evs

theorem Extends.of_eq {s t : State} (hcfg : t.cfg = s.cfg) (hhist : t.hist = s.hist) : Extends s t :=
  ⟨hcfg, [], by simp [hhist]⟩

theorem Extends.trans {s t u : State} (hst : Extends s t) (htu : Extends t u) : Extends s u := by
  obtain ⟨hcfg, evs, hhist⟩ := hst
  obtain ⟨hcfg', evs', hhist'⟩ := htu
  exact ⟨hcfg'.trans hcfg, evs ++ evs', by rw [hhist', hhist, List.append_assoc]⟩

theorem extends_runSteps (steps : List (Upc × Event)) (s : State) : Extends s (runSteps steps s) :=
  ⟨runSteps_cfg _ _, _, runSteps_hist _ _⟩

theorem extends_microStep (u : Upc) (ev : Event) (s : State) : Extends s (microStep u ev s) :=
  extends_runSteps [(u, ev)] s

theorem extends_enable (s : State) : Extends s (enable s) := by
  have hstart : Extends s (startClock s) := extends_runSteps _ s
  obtain ⟨-, he⟩ | ⟨-, -, -, he⟩ | ⟨-, -, -, he⟩ | ⟨-, -, -, he⟩ | ⟨r, -, -, -, -, he⟩ := enable_cases s
  · rw [he]; exact .of_eq rfl rfl
  · rw [he]; exact .of_eq rfl rfl
  · rw [he]; exact hstart.trans (extends_microStep _ _ _)
  · rw [he]; exact hstart.trans (extends_runSteps _ _)
  · rw [he]; exact hstart.trans (extends_runSteps _ _)

theorem extends_teardown (s : State) : Extends s (teardown s) := extends_runSteps (teardownSteps s) s

theorem extends_disable (keep : Bool) (s : State) : Extends s (disable keep s) := by
  obtain ⟨-, hd⟩ | ⟨-, -, -, hd⟩ | ⟨-, -, hd⟩ := disable_cases keep s
  · rw [hd]; exact .of_eq rfl rfl
  · rw [hd]; exact .of_eq rfl rfl
  · rw [hd]; exact extends_teardown s

theorem extends_writeResult (r : Option PllResult) (s : State) : Extends s (writeResult r s) := by
  obtain ⟨p, -, hw⟩ | ⟨-, hw⟩ := writeResult_cases r s
  · rw [hw]; exact .of_eq rfl rfl
  · rw [hw]; exact .of_eq rfl rfl

theorem extends_storeMode (mode : Nat) (s : State) : Extends s (storeMode mode s) := by
  obtain ⟨-, hm⟩ | ⟨-, hm⟩ := storeMode_cases mode s
  · rw [hm]; exact .of_eq rfl rfl
  · rw [hm]; exact .of_eq rfl rfl

theorem extends_exec {i : Instr} {s t : State} (h : exec i s = .next t) : Extends s t := by
  cases i with
  | synth e => cases h; exact extends_writeResult _ s
  | pllCalc => cases h; exact extends_writeResult _ s
  | clamp => cases h; exact .of_eq rfl rfl
  | setMode mode => cases h; exact extends_storeMode mode s
  | enable => cases h; exact extends_enable s
  | disable keep => cases h; exact extends_disable keep s

theorem extends_detach (s : State) : Extends s (detach s) := by
  obtain ⟨-, hd⟩ | ⟨-, -, hd⟩ | ⟨-, -, hd⟩ := detach_cases s
  · rw [hd]; exact .of_eq rfl rfl
  · rw [hd]; exact extends_teardown s
  · rw [hd]; exact .of_eq rfl rfl

/-- The machine by itself appends at most the last write of a power-up, which ends it. -/
theorem advance_extends (s : State) :
    Extends s (advance s) ∧ ((advance s).busy = true → (advance s).hist = s.hist) := by
  obtain ⟨-, -, -, ha⟩ | ⟨-, -, ha⟩ | ⟨-, ha⟩ := advance_cases s
  · rw [ha]; exact ⟨.of_eq rfl rfl, fun _ => rfl⟩
  · rw [ha]; exact ⟨extends_microStep _ _ _, nofun⟩
  · rw [ha]; exact ⟨.of_eq rfl rfl, fun _ => rfl⟩

/-- Each of the six forms of a move only appends to the history, and appends nothing in a pause that lasts. -/
theorem MoveEffect.hist_grows {s t : State} (hmove : MoveEffect s t) :
    Extends s t ∧ (s.busy = true → t.busy = true → t.hist = s.hist) := by
  cases hmove with
  | host fin target data => exact ⟨.of_eq rfl rfl, fun _ _ => rfl⟩
  | fault reason => exact ⟨.of_eq rfl rfl, fun _ _ => rfl⟩
  | illegal w idle => exact ⟨.of_eq rfl rfl, fun _ _ => rfl⟩
  | command w i t idle run =>
    have hexec : Extends (latch w s) t := extends_exec run
    exact ⟨hexec, by simp [idle]⟩
  | detach idle => exact ⟨extends_detach s, by simp [idle]⟩
  | advance =>
    obtain ⟨hext, hpause⟩ := advance_extends s
    exact ⟨hext, fun _ => hpause⟩

/-- Settles O46: a step is one of the six forms of a move, from a state that differs in the queue alone. -/
theorem historyOnlyGrows : Obligations.HistoryOnlyGrows := by
  intro s t hstep
  obtain ⟨-, rest, hmove⟩ := step_effect hstep
  obtain ⟨⟨hcfg, hgrow⟩, hpause⟩ := hmove.hist_grows
  exact ⟨hcfg, hgrow, hpause⟩

/-! ### Runs of one block -/

/-- A run that answers next makes its first step and then the rest. -/
theorem run_succ {M : Host.Core} {n : Nat} {s t : M.State} (h : M.run (n + 1) s = .next t) :
    ∃ u, M.step s = .next u ∧ M.run n u = .next t := by
  unfold Host.Core.run at h
  split at h
  · rename_i u hu; exact ⟨u, hu, h⟩
  · cases h
  · cases h

/-- A run keeps the invariant and the configuration. -/
theorem run_keeps_blockInv {n : Nat} {s t : State} (h : BlockInv s)
    (hrun : Host.Core.run Sys2Proof.core n s = .next t) : BlockInv t ∧ t.cfg = s.cfg := by
  induction n generalizing s with
  | zero => cases hrun; exact ⟨h, rfl⟩
  | succ n ih =>
    obtain ⟨u, hstep, hrest⟩ := run_succ hrun
    obtain ⟨hcfg, -⟩ := historyOnlyGrows s u hstep
    obtain ⟨hinv, hcfg'⟩ := ih (stepKeepsInvariant s u h hstep) hrest
    exact ⟨hinv, hcfg'.trans hcfg⟩

/-- Powered hardware has the lines up: they are as the history says they were last driven. -/
theorem BlockInv.lines_of_powered {s : State} (h : BlockInv s) (hp : Powered s) : s.rst = .deasserted ∧ s.clk = .on := by
  obtain ⟨hrst, hclk, -⟩ := hp
  exact ⟨h.rst_last_driven _ hrst, h.clk_last_driven _ hclk⟩

/-- Settles O44: the invariant holds at the end of the run, and says it of a block at rest. -/
theorem everyRunRestsAsR42Says : Obligations.EveryRunRestsAsR42Says := by
  intro cfg rst clk moves oks waits n t hbase hrun hf hb
  have hinit := (blockInv_attach rst clk hbase).environment moves oks waits
  obtain ⟨hinv, hcfg⟩ := run_keeps_blockInv hinit hrun
  have hcfg : t.cfg = cfg := hcfg
  refine ⟨fun hena => ?_, fun hdis => ?_⟩
  · obtain ⟨hpow, -⟩ := hinv.enabled_powered hena
    have ⟨_, _, _, v, hen, _, _, hready⟩ := hpow
    refine ⟨⟨v, ?_, hready⟩, hinv.lines_of_powered hpow⟩
    rw [hinv.dev_last_write, busView_dev_en] at hen
    exact hen
  · obtain hnil | hlast | ⟨htopo, hpow⟩ := hinv.disabled_down hf hb hdis
    · exact .inl hnil
    · exact .inr (.inl hlast)
    · have ⟨_, _, _, v, hen, _, _, hready⟩ := hpow
      obtain ⟨hrst, hclk⟩ := hinv.lines_of_powered hpow
      exact .inr (.inr ⟨hcfg ▸ htopo, hrst, hclk, v, hen, hready⟩)

/-! ### Runs of a platform -/

/-- Whatever the schedule, every block keeps its invariant. -/
theorem runLanes_keeps_blockInv {schedule : List Nat} {blocks after : List State} (h : ∀ s ∈ blocks, BlockInv s)
    (hrun : runLanes schedule blocks = .next after) : ∀ s ∈ after, BlockInv s := by
  induction schedule generalizing blocks with
  | nil => cases hrun; exact h
  | cons k ks ih =>
    obtain ⟨mid, hlane, hrest⟩ := runLanes_cons hrun
    obtain ⟨s, t, hs, hstep, rfl⟩ := stepLane_cases hlane
    refine ih (fun u hu => ?_) hrest
    obtain hu | rfl := List.mem_or_eq_of_mem_set hu
    · exact h u hu
    · exact stepKeepsInvariant s u (h s (List.mem_of_getElem? hs)) hstep

/-- Settles O55: the invariant of each block at the end of the run, read at rest. -/
theorem platformRunKeepsEveryInvariant : Obligations.PlatformRunKeepsEveryInvariant := by
  intro schedule blocks after h hrun
  have hafter := runLanes_keeps_blockInv h hrun
  refine ⟨hafter, fun hended s hs => ?_⟩
  have hinv := hafter s hs
  obtain ⟨-, hidle, hf⟩ := hended s hs
  refine ⟨fun hena => ?_, hinv.disabled_down hf hidle⟩
  obtain ⟨hpow, -⟩ := hinv.enabled_powered hena
  exact ⟨hpow, hinv.lines_of_powered hpow⟩

end Sys2Proof.Machine
end

section
/-! PROOFS. The register block as memory: where its five words lie, what a register write stores, and that the
commands which write registers leave every byte outside their words alone. -/

namespace Sys2Proof.Machine

/-! ### The offsets and addresses of the registers -/

theorem regId_injective : Function.Injective regId := by
  intro r r' h
  cases r <;> cases r' <;> simp [regId] at h ⊢

/-- The offset table permutes, so it keeps the identifiers apart (R54; log entry 15). -/
theorem offset_injective (g : Gen) (t : Topo) : Function.Injective (offset g t) := by
  intro r r' h
  have hword : Config.offsetWord g t (regId r) = Config.offsetWord g t (regId r') :=
    Nat.eq_of_mul_eq_mul_left (by decide) h
  exact regId_injective ((Config.offsetWord g t).injective hword)

theorem offset_mod_four (g : Gen) (t : Topo) (r : Reg) : offset g t r % 4 = 0 := Nat.mul_mod_right 4 _

/-- In an aligned region every register address is aligned (R54, R57). -/
theorem add_offset_mod_four {base : Nat} (hbase : base % 4 = 0) (g : Gen) (t : Topo) (r : Reg) :
    (base + offset g t r) % 4 = 0 := by
  have hoff := offset_mod_four g t r
  omega

theorem regAddress_injective (c : BlockConfig) : Function.Injective (regAddress c) :=
  fun _ _ h => offset_injective c.gen c.topo (Nat.add_left_cancel h)

/-- Settles O32: each offset is four times the value of a permutation. -/
theorem offsetsAreDistinctMultiplesOfFour : Obligations.OffsetsAreDistinctMultiplesOfFour :=
  fun g t r _ => ⟨offset_mod_four g t r, fun h => offset_injective g t h⟩

/-! ### The word at an address -/

/-- At a register's address stands the packed record that the register holds, if it holds one (R52, R62). -/
theorem busWord_regAddress (s : State) (r : Reg) :
    busWord s (regAddress s.cfg r) = (s.dev.held r).map (pack s.cfg.gen s.cfg.topo) := by
  unfold busWord
  split
  · rename_i r' hfind
    have haddr : regAddress s.cfg r' = regAddress s.cfg r := by simpa using List.find?_some hfind
    rw [regAddress_injective _ haddr]
  · rename_i hfind
    have hmiss := List.find?_eq_none.mp hfind r (by cases r <;> decide)
    simp at hmiss

/-- Where no register lies there is no word. -/
theorem busWord_eq_none {s : State} {a : Nat} (h : ∀ r, regAddress s.cfg r ≠ a) : busWord s a = none := by
  unfold busWord
  split
  · rename_i r hfind
    have haddr : regAddress s.cfg r = a := by simpa using List.find?_some hfind
    exact absurd haddr (h r)
  · rfl

/-- The word at an address depends only on the configuration and on what the register there holds. -/
theorem busWord_congr {s t : State} {a : Nat} (hcfg : t.cfg = s.cfg)
    (hheld : ∀ r, regAddress s.cfg r = a → t.dev.held r = s.dev.held r) : busWord t a = busWord s a := by
  by_cases hreg : ∃ r, regAddress s.cfg r = a
  · obtain ⟨r, rfl⟩ := hreg
    rw [busWord_regAddress s r, ← hheld r rfl, ← hcfg, busWord_regAddress t r]
  · have hnone : ∀ r, regAddress s.cfg r ≠ a := fun r hr => hreg ⟨r, hr⟩
    rw [busWord_eq_none hnone, busWord_eq_none (hcfg ▸ hnone)]

theorem emit_regWrite_dev (w : RegWrite) (s : State) : (emit (.regWrite w) s).dev = s.dev.write w := rfl

/-- Settles O31: the register written holds the record, and the others hold what they held. -/
theorem registerWriteReadsBack : Obligations.RegisterWriteReadsBack := by
  intro w s
  constructor
  · have hword := busWord_regAddress (emit (.regWrite w) s) w.reg
    rwa [emit_regWrite_dev, held_write_same, emit_cfg] at hword
  · intro a ha
    refine busWord_congr (emit_cfg _ _) fun r hr => ?_
    have hother : r ≠ w.reg := fun h => ha (h ▸ hr.symm)
    rw [emit_regWrite_dev, held_write_other _ _ _ hother]

/-! ### Changes that write only some of the registers -/

/-- From `s` to `t` the configuration stays, and only registers of `P` may hold something new. -/
def WritesOnly (P : Reg → Prop) (s t : State) : Prop :=
  t.cfg = s.cfg ∧ ∀ r, ¬ P r → t.dev.held r = s.dev.held r

theorem WritesOnly.of_eq {P : Reg → Prop} {s t : State} (hcfg : t.cfg = s.cfg) (hdev : t.dev = s.dev) :
    WritesOnly P s t :=
  ⟨hcfg, fun r _ => congrArg (·.held r) hdev⟩

theorem WritesOnly.trans {P : Reg → Prop} {s t u : State} (hst : WritesOnly P s t) (htu : WritesOnly P t u) :
    WritesOnly P s u := by
  obtain ⟨hcfg, hheld⟩ := hst
  obtain ⟨hcfg', hheld'⟩ := htu
  exact ⟨hcfg'.trans hcfg, fun r hr => (hheld' r hr).trans (hheld r hr)⟩

/-- A byte outside the words of the registers that may be written reads as before. -/
theorem WritesOnly.blockByte_eq {P : Reg → Prop} {s t : State} {a : Nat} (h : WritesOnly P s t)
    (hout : ∀ r, P r → ¬ (regAddress s.cfg r ≤ a ∧ a < regAddress s.cfg r + 4)) :
    blockByte t a = blockByte s a := by
  obtain ⟨hcfg, hheld⟩ := h
  have hword : busWord t (a - a % 4) = busWord s (a - a % 4) := by
    refine busWord_congr hcfg fun r hr => hheld r fun hP => hout r hP ?_
    omega
  simp only [blockByte, hword]

/-- A micro-step changes no device register but the one it writes. -/
theorem writesOnly_microStep {P : Reg → Prop} {ev : Event} (h : ∀ w, ev = .regWrite w → P w.reg) (u : Upc)
    (s : State) : WritesOnly P s (microStep u ev s) := by
  cases ev with
  | regWrite w =>
    refine ⟨rfl, fun r hr => held_write_other s.dev w r ?_⟩
    rintro rfl
    exact hr (h w rfl)
  | _ => exact .of_eq rfl rfl

/-- A sequence of micro-steps changes no device register but those it writes. -/
theorem writesOnly_runSteps {P : Reg → Prop} {steps : List (Upc × Event)}
    (h : ∀ p ∈ steps, ∀ w, p.2 = .regWrite w → P w.reg) (s : State) : WritesOnly P s (runSteps steps s) := by
  induction steps generalizing s with
  | nil => exact .of_eq rfl rfl
  | cons p rest ih =>
    obtain ⟨hp, hrest⟩ := List.forall_mem_cons.mp h
    exact (writesOnly_microStep hp p.1 s).trans (ih hrest _)

/-! ### The registers that the sequences write -/

/-- The registers of a power-up: the fifth only in `SHARED` (R140 to R142). -/
def PowerUpReg (t : Topo) (r : Reg) : Prop :=
  r = .route ∨ r = .chan ∨ r = .pll ∨ r = .en ∨ (r = .pllDiv ∧ t = .shared)

/-- The registers of a teardown (R150). -/
def TeardownReg (r : Reg) : Prop := r = .pll ∨ r = .chan ∨ r = .en

/-- The start of a power-up writes no device register. -/
theorem writesOnly_startClock (P : Reg → Prop) (s : State) : WritesOnly P s (startClock s) :=
  .of_eq (startClock_cfg s) rfl

theorem writesOnly_clockFail (P : Reg → Prop) (s : State) : WritesOnly P s (clockFail s) := .of_eq rfl rfl

theorem writesOnly_legacyPowerUp (t : Topo) (s : State) : WritesOnly (PowerUpReg t) s (legacyPowerUp s) := by
  refine writesOnly_runSteps (steps := commonSteps s ++ legacySteps s (targetKHz s)) ?_ s
  simp [commonSteps, legacySteps, routeWrite, chanWrite, enWrite, RegWrite.reg, PowerUpReg]

theorem writesOnly_sharedPowerUp (r : PllRegister) (s : State) :
    WritesOnly (PowerUpReg .shared) s (sharedPowerUp r s) := by
  refine writesOnly_runSteps (steps := commonSteps s ++ sharedSteps s r) ?_ s
  simp [commonSteps, sharedSteps, routeWrite, chanWrite, enWrite, RegWrite.reg, PowerUpReg]

theorem writesOnly_enable (s : State) : WritesOnly (PowerUpReg s.cfg.topo) s (enable s) := by
  have hstart := writesOnly_startClock (PowerUpReg s.cfg.topo) s
  obtain ⟨-, he⟩ | ⟨-, -, -, he⟩ | ⟨-, -, -, he⟩ | ⟨-, -, -, he⟩ | ⟨r, -, htopo, -, -, he⟩ := enable_cases s
  · rw [he]; exact .of_eq rfl rfl
  · rw [he]; exact .of_eq rfl rfl
  · rw [he]; exact hstart.trans (writesOnly_clockFail _ _)
  · rw [he]; exact hstart.trans (writesOnly_legacyPowerUp _ _)
  · rw [he]; exact hstart.trans (htopo ▸ writesOnly_sharedPowerUp r _)

theorem writesOnly_teardown (s : State) : WritesOnly TeardownReg s (teardown s) := by
  refine writesOnly_runSteps (steps := teardownSteps s) ?_ s
  simp [teardownSteps, RegWrite.reg, TeardownReg]

theorem writesOnly_disable (keep : Bool) (s : State) : WritesOnly TeardownReg s (disable keep s) := by
  obtain ⟨-, hd⟩ | ⟨-, -, -, hd⟩ | ⟨-, -, hd⟩ := disable_cases keep s
  · rw [hd]; exact .of_eq rfl rfl
  · rw [hd]; exact .of_eq rfl rfl
  · rw [hd]; exact writesOnly_teardown s

theorem writesOnly_detach (s : State) : WritesOnly TeardownReg s (detach s) := by
  obtain ⟨-, hd⟩ | ⟨-, -, hd⟩ | ⟨-, -, hd⟩ := detach_cases s
  · rw [hd]; exact .of_eq rfl rfl
  · rw [hd]; exact writesOnly_teardown s
  · rw [hd]; exact .of_eq rfl rfl

/-- The resume step makes one write, of `REG_EN` (R141, R146). -/
theorem writesOnly_resume (s : State) : WritesOnly (· = .en) s (resume s) :=
  writesOnly_microStep (ev := enWrite s true true true true) (by simp [enWrite, RegWrite.reg]) .enLReady s

/-- Settles O30: each of the four changes only writes its registers. -/
theorem otherBlockBytesStay : Obligations.OtherBlockBytesStay := by
  refine ⟨?_, ?_, fun s a hout => ?_, fun s a hout => (writesOnly_detach s).blockByte_eq hout⟩
  · intro s t a hexec hout
    cases hexec
    exact (writesOnly_enable s).blockByte_eq hout
  · intro keep s t a hexec hout
    cases hexec
    exact (writesOnly_disable keep s).blockByte_eq hout
  · refine (writesOnly_resume s).blockByte_eq ?_
    rintro r rfl
    exact hout

/-! ### Attach of one lane, and a read of `PLLRES` whole -/

/-- Settles O39, by cases on the region, its alignment and the two handles (R57, R251). -/
theorem attachLaneNeedsResources : Obligations.AttachLaneNeedsResources := by
  rintro rst clk ⟨gen, topo, lane, region, clkHandle, rstHandle, memory⟩ rfl
  cases region with
  | none => exact .inr ⟨.inl rfl, rfl⟩
  | some base =>
    cases clkHandle with
    | none => exact .inr ⟨.inr (.inl rfl), rfl⟩
    | some ch =>
      cases rstHandle with
      | none => exact .inr ⟨.inr (.inr (.inl rfl)), rfl⟩
      | some rh =>
        by_cases hbase : base % 4 = 0
        · exact .inl ⟨base, ch, rh, rfl, hbase, rfl, rfl, if_pos hbase, add_offset_mod_four hbase gen topo⟩
        · exact .inr ⟨.inr (.inr (.inr ⟨base, rfl, hbase⟩)), if_neg hbase⟩

/-- Settles O53: the move in front reads the three words of `PLLRES` from the state it is made in. -/
theorem pllResIsReadAtOnce : Obligations.PllResIsReadAtOnce := by
  intro s rest ha hf hm
  refine ⟨pllRes0Word s.pllRes, pllRes1Word s.pllRes, pllRes2Word s.pllRes, rfl, rfl, rfl, ?_⟩
  rw [step_of_moves_cons ha hf hm, makeMove_readPllRes]
  rfl

end Sys2Proof.Machine
end

section
/-! PROOFS. The command word: the rows of the opcode map as conditions on `OP` and on the reserved bits, and what
decoding and encoding give back of each other (R71 to R80). -/

namespace Sys2Proof

/-! ### A row of the opcode map -/

/-- The opcode of a row (R72). -/
def Op.code (x : Op) : Nat := x.pattern.toNat

/-- The bits R78 reserves in a word whose `OP` is `op`. -/
abbrev ReservedBit (op b : Nat) : Prop :=
  (b = 6 ∨ b = 7 ∨ 12 ≤ b) ∨ (b = 4 ∧ op ≠ 1) ∨ (b = 5 ∧ op ≠ 6) ∨ (8 ≤ b ∧ b < 12 ∧ op ≠ 4)

theorem Op.mem_all (x : Op) : x ∈ Op.all := by cases x <;> decide

theorem Op.code_injective : Function.Injective Op.code := by
  intro x y h
  cases x <;> cases y <;> simp [Op.code, Op.pattern] at h ⊢

/-- The opcodes of the rows are 1 to 6 (R72, R77). -/
theorem Op.exists_code_iff {n : Nat} : (∃ x : Op, x.code = n) ↔ 1 ≤ n ∧ n < 7 := by
  constructor
  · rintro ⟨x, rfl⟩
    cases x <;> decide
  · rintro ⟨h₁, h₂⟩
    interval_cases n
    exacts [⟨.synth, rfl⟩, ⟨.pllCalc, rfl⟩, ⟨.clamp, rfl⟩, ⟨.setMode, rfl⟩, ⟨.enable, rfl⟩, ⟨.disable, rfl⟩]

/-- A row's pattern has no 1 above `OP` (R73). -/
theorem Op.pattern_getLsbD_of_ge (x : Op) {b : Nat} (hb : 4 ≤ b) : x.pattern.getLsbD b = false := by
  obtain ⟨-, hlt⟩ := Op.exists_code_iff.mp ⟨x, rfl⟩
  have hpow : 2 ^ 4 ≤ 2 ^ b := Nat.pow_le_pow_right (by decide) hb
  exact Nat.testBit_lt_two_pow (show x.code < 2 ^ b by omega)

/-- A row's mask covers `OP` and the bits reserved for the row (R73, R78). -/
theorem Op.mask_getLsbD (x : Op) : ∀ b < 32, x.mask.getLsbD b = decide (b < 4 ∨ ReservedBit x.code b) := by
  cases x <;> decide

/-- The field `OP` of a word, bit by bit (R71). -/
theorem testBit_mod_sixteen (w : Word) (b : Nat) :
    (w.toNat % 16).testBit b = (decide (b < 4) && w.getLsbD b) :=
  Nat.testBit_mod_two_pow w.toNat 4 b

/-- A word shows a row's opcode when its bits 3 to 0 are those of the pattern (R71, R73). -/
theorem Op.mod_sixteen_eq_code_iff {x : Op} {w : Word} :
    w.toNat % 16 = x.code ↔ ∀ b < 4, w.getLsbD b = x.pattern.getLsbD b := by
  constructor
  · intro hop b hb
    have hbit := testBit_mod_sixteen w b
    rw [hop, decide_eq_true hb, Bool.true_and] at hbit
    exact hbit.symm
  · intro h
    refine Nat.eq_of_testBit_eq fun b => (testBit_mod_sixteen w b).trans ?_
    by_cases hb : b < 4
    · rw [decide_eq_true hb, Bool.true_and]
      exact h b hb
    · rw [decide_eq_false hb, Bool.false_and]
      exact (x.pattern_getLsbD_of_ge (Nat.le_of_not_lt hb)).symm

/-- A row spells a word when `OP` is its opcode and every bit reserved for it is 0 (R73, R78). -/
theorem Op.spells_iff {x : Op} {w : Word} :
    x.spells w = true ↔ w.toNat % 16 = x.code ∧ ∀ b, w.getLsbD b = true → ¬ ReservedBit x.code b := by
  rw [Op.spells, beq_iff_eq, BitVec.eq_of_getLsbD_eq_iff, Op.mod_sixteen_eq_code_iff]
  constructor
  · intro h
    refine ⟨fun b hb => ?_, fun b hw hres => ?_⟩
    · simpa [x.mask_getLsbD b (by omega), hb] using h b (by omega)
    · have hbit := h b (BitVec.lt_of_getLsbD hw)
      rw [x.pattern_getLsbD_of_ge (by omega), BitVec.getLsbD_and, x.mask_getLsbD b (BitVec.lt_of_getLsbD hw)] at hbit
      simp [hw, hres] at hbit
  · rintro ⟨hop, hres⟩ b hb
    rw [BitVec.getLsbD_and, x.mask_getLsbD b hb]
    by_cases hlow : b < 4
    · simp [hlow, hop b hlow]
    · rw [x.pattern_getLsbD_of_ge (Nat.le_of_not_lt hlow)]
      cases hw : w.getLsbD b with
      | false => rfl
      | true => simp [hlow, hres b hw]

/-! ### Decoding a word -/

/-- At most one row spells a word, since the word shows the row's opcode. -/
theorem Op.spells_unique {x y : Op} {w : Word} (hx : x.spells w = true) (hy : y.spells w = true) : x = y := by
  obtain ⟨hx, -⟩ := Op.spells_iff.mp hx
  obtain ⟨hy, -⟩ := Op.spells_iff.mp hy
  exact Op.code_injective (hx.symm.trans hy)

/-- The decoder reads a word by the row that spells it, whatever its place in the table. -/
theorem decode_of_spells {x : Op} {w : Word} (h : x.spells w = true) : decode w = .ok (x.read w) := by
  cases hfind : Op.all.find? (fun y => y.spells w) with
  | none => exact absurd h (List.find?_eq_none.mp hfind x x.mem_all)
  | some y =>
    have hy : y.spells w = true := List.find?_some (p := fun y => Op.spells y w) hfind
    obtain rfl := Op.spells_unique hy h
    simp [decode, hfind]

/-- The decoder rejects a word that no row spells. -/
theorem decode_of_not_spells {w : Word} (h : ∀ x : Op, ¬ x.spells w = true) : ∃ e, decode w = .error e := by
  have hfind : Op.all.find? (fun x => x.spells w) = none := List.find?_eq_none.mpr fun x _ => h x
  simp only [decode, hfind]
  split
  · exact ⟨_, rfl⟩
  · exact ⟨_, rfl⟩

/-- A word that decodes is spelled by a row and read by it (R80). -/
theorem spells_of_decode {w : Word} {i : Instr} (h : decode w = .ok i) :
    ∃ x : Op, x.spells w = true ∧ i = x.read w := by
  by_cases hx : ∃ x : Op, x.spells w = true
  · obtain ⟨x, hx⟩ := hx
    exact ⟨x, hx, Except.ok.inj (h.symm.trans (decode_of_spells hx))⟩
  · obtain ⟨e, he⟩ := decode_of_not_spells (not_exists.mp hx)
    cases h.symm.trans he

/-- The words the decoder rejects are those that no row spells (R80). -/
theorem decode_error_iff {w : Word} : (∃ e, decode w = .error e) ↔ ∀ x : Op, ¬ x.spells w = true := by
  refine ⟨?_, decode_of_not_spells⟩
  rintro ⟨e, he⟩ x hx
  cases he.symm.trans (decode_of_spells hx)

/-! ### The rejected words -/

/-- No row spells a word exactly when its `OP` is no opcode or a bit reserved for its `OP` is 1 (R77, R78). -/
theorem not_spells_iff {w : Word} : (∀ x : Op, ¬ x.spells w = true) ↔
    w.toNat % 16 = 0 ∨ 7 ≤ w.toNat % 16 ∨ ∃ b, w.getLsbD b = true ∧ ReservedBit (w.toNat % 16) b := by
  constructor
  · intro h
    by_cases hop : ∃ x : Op, x.code = w.toNat % 16
    · obtain ⟨x, hx⟩ := hop
      refine .inr (.inr ?_)
      by_contra hfree
      exact h x (Op.spells_iff.mpr ⟨hx.symm, fun b hw hb => hfree ⟨b, hw, hx ▸ hb⟩⟩)
    · rw [Op.exists_code_iff] at hop
      omega
  · intro h x hx
    obtain ⟨hop, hres⟩ := Op.spells_iff.mp hx
    obtain ⟨hpos, hlt⟩ := Op.exists_code_iff.mp ⟨x, hop.symm⟩
    obtain h | h | ⟨b, hw, hb⟩ := h
    · omega
    · omega
    · exact hres b hw (hop ▸ hb)

/-- The reserved bits that are 1, listed as R78 does. -/
theorem exists_reservedBit_iff {w : Word} {op : Nat} :
    (∃ b, w.getLsbD b = true ∧ ReservedBit op b) ↔
      (∃ b, (b = 6 ∨ b = 7 ∨ 12 ≤ b) ∧ w.getLsbD b = true)
      ∨ (w.getLsbD 4 = true ∧ op ≠ 1) ∨ (w.getLsbD 5 = true ∧ op ≠ 6)
      ∨ ∃ b, 8 ≤ b ∧ b < 12 ∧ w.getLsbD b = true ∧ op ≠ 4 := by
  constructor
  · rintro ⟨b, hw, hb | ⟨rfl, hop⟩ | ⟨rfl, hop⟩ | ⟨hlo, hhi, hop⟩⟩
    · exact .inl ⟨b, hb, hw⟩
    · exact .inr (.inl ⟨hw, hop⟩)
    · exact .inr (.inr (.inl ⟨hw, hop⟩))
    · exact .inr (.inr (.inr ⟨b, hlo, hhi, hw, hop⟩))
  · rintro (⟨b, hb, hw⟩ | ⟨hw, hop⟩ | ⟨hw, hop⟩ | ⟨b, hlo, hhi, hw, hop⟩)
    · exact ⟨b, hw, .inl hb⟩
    · exact ⟨4, hw, .inr (.inl ⟨rfl, hop⟩)⟩
    · exact ⟨5, hw, .inr (.inr (.inl ⟨rfl, hop⟩))⟩
    · exact ⟨b, hw, .inr (.inr (.inr ⟨hlo, hhi, hop⟩))⟩

/-! ### The operands of a command -/

/-- What a row reads is well formed: `MODE` has 4 bits (R71). -/
theorem Op.read_wellFormed (x : Op) (w : Word) : (x.read w).wellFormed = true := by
  cases x with
  | setMode => exact decide_eq_true (modeField w).isLt
  | _ => rfl

theorem Op.read_op (x : Op) (w : Word) : (x.read w).op = x := by cases x <;> rfl

/-- The field `MODE`, put back in its place, is the word with every other bit cleared (R71). -/
theorem modeField_shift (w : Word) :
    BitVec.ofNat 32 (modeField w).toNat <<< 8 = w &&& ~~~Op.setMode.mask := by
  have hmask : ∀ b < 32, (~~~Op.setMode.mask).getLsbD b = decide (8 ≤ b ∧ b < 12) := by decide
  refine BitVec.eq_of_getLsbD_eq fun b hb => ?_
  rw [BitVec.getLsbD_and, hmask b hb, BitVec.ofNat_toNat]
  by_cases hlow : 8 ≤ b
  · obtain ⟨k, rfl⟩ := Nat.exists_eq_add_of_le hlow
    have hk : 8 + k < 12 ↔ k < 4 := by omega
    simp [modeField, hb, hk, Bool.and_comm]
  · simp [hlow, Nat.lt_of_not_le hlow]

/-- The word of `SET_MODE` shows the mode in the field `MODE` (R71). -/
theorem modeField_encode (mode : Nat) : modeField (encode (.setMode mode)) = BitVec.ofNat 4 mode := by
  have hpat : ∀ b < 4, Op.setMode.pattern.getLsbD (8 + b) = false := by decide
  refine BitVec.eq_of_getLsbD_eq fun b hb => ?_
  simp only [modeField, encode, Instr.op, Instr.operandBits, BitVec.getLsbD_extractLsb', BitVec.getLsbD_or, hpat b hb,
    BitVec.getLsbD_shiftLeft, BitVec.getLsbD_ofNat]
  simp [hb, show 8 + b < 32 by omega, show b < 32 by omega]

/-- The operand bits of what a row reads are the bits outside the row's mask (R71, R73). -/
theorem Op.read_operandBits (x : Op) (w : Word) : (x.read w).operandBits = w &&& ~~~x.mask := by
  cases x with
  | synth => exact (BitVec.and_twoPow w 4).symm
  | disable => exact (BitVec.and_twoPow w 5).symm
  | setMode => exact modeField_shift w
  | pllCalc => exact BitVec.and_zero.symm
  | clamp => exact BitVec.and_zero.symm
  | enable => exact BitVec.and_zero.symm

/-- Encoding what a row reads from a word it spells gives the word: its bits under the mask are the pattern, the
others are operands. -/
theorem Op.encode_read {x : Op} {w : Word} (h : x.spells w = true) : encode (x.read w) = w := by
  have hpat : w &&& x.mask = x.pattern := beq_iff_eq.mp h
  calc encode (x.read w) = (w &&& x.mask) ||| (w &&& ~~~x.mask) := by
        rw [encode, Op.read_op, Op.read_operandBits, hpat]
    _ = w := by rw [← BitVec.and_or_distrib_left, BitVec.or_not_self, BitVec.and_allOnes]

/-- The row of a well-formed command reads the operands back from its word (R71, R82). -/
theorem Instr.read_encode {i : Instr} (h : i.wellFormed = true) : i.op.read (encode i) = i := by
  cases i with
  | synth e => cases e <;> rfl
  | setMode mode =>
    have hmode : mode < 16 := of_decide_eq_true h
    have hfield : (modeField (encode (.setMode mode))).toNat = mode := by
      rw [modeField_encode, BitVec.toNat_ofNat]
      exact Nat.mod_eq_of_lt hmode
    exact congrArg Instr.setMode hfield
  | disable keep => cases keep <;> rfl
  | pllCalc => rfl
  | clamp => rfl
  | enable => rfl

/-- The word of a well-formed command is spelled by the command's own row and by no other (R73). -/
theorem Instr.encode_spells (i : Instr) : Laws.EncodeSpells.Statement i := by
  cases i with
  | synth e => exact Laws.EncodeSpells.synth e
  | pllCalc => exact Laws.EncodeSpells.pllCalc
  | clamp => exact Laws.EncodeSpells.clamp
  | setMode mode => exact Laws.EncodeSpells.setMode mode
  | enable => exact Laws.EncodeSpells.enable
  | disable keep => exact Laws.EncodeSpells.disable keep

/-! ### The statements -/

/-- Settles O3: the word is spelled by the command's row, which reads the operands back. -/
theorem decodeEncodeRoundTrip : Obligations.DecodeEncodeRoundTrip := by
  intro i hwf
  have hspells : i.op.spells (encode i) = true := (i.encode_spells hwf i.op).mpr rfl
  rw [decode_of_spells hspells, Instr.read_encode hwf]

/-- Settles O4, from the row that spells the word. -/
theorem encodeDecodeRoundTrip : Obligations.EncodeDecodeRoundTrip := by
  intro w i h
  obtain ⟨x, hx, rfl⟩ := spells_of_decode h
  exact ⟨x.read_wellFormed w, x.encode_read hx⟩

/-- Settles O5: the rejected words are those that no row spells. -/
theorem rejectedWordsAreTheReservedOnes : Obligations.RejectedWordsAreTheReservedOnes := by
  intro w
  refine ⟨?_, decode_error_iff.trans ?_⟩
  · rw [decode_error_iff, not_spells_iff, exists_reservedBit_iff]
  · simp only [Op.spells, beq_iff_eq, ne_eq]

/-- Settles O2: each word is the one that `encode` gives for the command. -/
theorem specWordsDecode : Obligations.SpecWordsDecode :=
  ⟨decodeEncodeRoundTrip (.synth true) rfl, decodeEncodeRoundTrip .pllCalc rfl,
    decodeEncodeRoundTrip .clamp rfl, decodeEncodeRoundTrip (.setMode 11) rfl,
    decodeEncodeRoundTrip .enable rfl, decodeEncodeRoundTrip (.disable true) rfl⟩

end Sys2Proof
end

section
/-! PROOFS. The words the host reads from the result registers, as fields placed side by side (R75), and that a search
result fits its fields (R76). -/

namespace Sys2Proof.Machine

/-! ### A field placed in a word -/

/-- The word with the field `x` from bit `k` on and every other bit 0. -/
def placed {n : Nat} (k : Nat) (x : BitVec n) : Word := x.setWidth 32 <<< k

@[simp] theorem getElem_placed {n k b : Nat} (x : BitVec n) (hb : b < 32) :
    (placed k x)[b] = (decide (k ≤ b) && x.getLsbD (b - k)) := by
  by_cases hk : k ≤ b
  · simp [placed, hk, Nat.not_lt.mpr hk]
  · simp [placed, hk, Nat.lt_of_not_le hk]

/-- A field reads back from its own place. -/
@[simp] theorem extractLsb'_placed_self {n k : Nat} (x : BitVec n) (h : k + n ≤ 32) :
    (placed k x).extractLsb' k n = x := by
  refine BitVec.eq_of_getLsbD_eq fun b hb => ?_
  simp [hb, show k + b < 32 by omega]

/-- A field leaves every place apart from its own at 0. -/
@[simp] theorem extractLsb'_placed_apart {n k j m : Nat} (x : BitVec n) (hj : j + m ≤ 32) (h : j + m ≤ k ∨ k + n ≤ j) :
    (placed k x).extractLsb' j m = 0 := by
  refine BitVec.eq_of_getLsbD_eq fun b hb => ?_
  simp only [BitVec.getLsbD_extractLsb', BitVec.getLsbD_eq_getElem (show j + b < 32 by omega), getElem_placed]
  obtain h | h := h
  · simp [show ¬ k ≤ j + b by omega]
  · simp [x.getLsbD_of_ge (j + b - k) (by omega)]

/-! ### The packed words (R75) -/

theorem pllRes0Word_some (r : PllRegister) : pllRes0Word (some r) =
    placed 0 1#1 ||| placed 1 (BitVec.ofBool r.e) ||| placed 4 r.m ||| placed 8 r.n ||| placed 16 r.div := rfl

theorem stateWord_eq (s : State) : stateWord s =
    placed 0 (BitVec.ofBool (s.seqState == .enabled)) ||| placed 1 (BitVec.ofBool s.busy) ||| placed 8 s.mode := by
  simp [stateWord, placed]

/-- The fields of `PLLRES0` at their places, and its other bits 0. -/
theorem pllRes0Word_fields (r : PllRegister) :
    (pllRes0Word (some r)).getLsbD 0 = true ∧ (pllRes0Word (some r)).getLsbD 1 = r.e
      ∧ (pllRes0Word (some r)).extractLsb' 4 3 = r.m ∧ (pllRes0Word (some r)).extractLsb' 8 7 = r.n
      ∧ (pllRes0Word (some r)).extractLsb' 16 7 = r.div
      ∧ (pllRes0Word (some r)).extractLsb' 2 2 = 0 ∧ (pllRes0Word (some r)).getLsbD 7 = false
      ∧ (pllRes0Word (some r)).getLsbD 15 = false ∧ (pllRes0Word (some r)).extractLsb' 23 9 = 0 := by
  simp [pllRes0Word_some, BitVec.extractLsb'_or]

/-- The fields of `STATE` at their places, and its other bits 0. -/
theorem stateWord_fields (s : State) :
    (stateWord s).getLsbD 0 = decide (s.seqState = .enabled) ∧ (stateWord s).getLsbD 1 = s.busy
      ∧ (stateWord s).extractLsb' 8 4 = s.mode ∧ (stateWord s).extractLsb' 2 6 = 0
      ∧ (stateWord s).extractLsb' 12 20 = 0 := by
  have hstate : (s.seqState == .enabled) = decide (s.seqState = .enabled) := rfl
  simp [stateWord_eq, hstate, BitVec.extractLsb'_or]

/-! ### A read as a step -/

/-- What a result register reads does not depend on the moves still to come. -/
theorem hostWord_moves (r : HostReg) (s : State) (moves : List Move) :
    hostWord r { s with moves := moves } = hostWord r s := by
  cases r <;> rfl

theorem hostRead_of_word {r : HostReg} {s : State} {w : Word} (h : hostWord r s = some w) :
    hostRead r s = { s with hostData := some (.word r w) } := by
  simp [hostRead, h]

theorem hostRead_of_no_word {r : HostReg} {s : State} (h : hostWord r s = none) :
    hostRead r s = raise .unwrittenRead s := by
  simp [hostRead, h]

/-- Settles O35: the packed words by `pllRes0Word_fields` and `stateWord_fields`, the others as they stand, and the read
move by whether the register holds a word. -/
theorem hostReadsPackedWords : Obligations.HostReadsPackedWords := by
  refine ⟨fun s => ?_, fun s hnone => ?_, fun s r hsome => ?_, fun s => ⟨_, rfl, stateWord_fields s⟩, fun _ => rfl, ?_⟩
  · simp only [hostWord]
    cases s.status <;> rfl
  · simp only [hostWord, hnone]
    exact ⟨rfl, rfl, rfl⟩
  · simp only [hostWord, hsome]
    exact ⟨rfl, rfl, _, rfl, pllRes0Word_fields r⟩
  · intro r s rest ha hf hm
    rw [step_of_moves_cons ha hf hm, makeMove_read, ← hostWord_moves r s rest]
    exact ⟨fun w hw => congrArg _ (hostRead_of_word hw), fun hnone => congrArg _ (hostRead_of_no_word hnone)⟩

/-! ### A result fits its fields (R76) -/

theorem toNat_ofNat_of_lt {w n : Nat} (h : n < 2 ^ w) : (BitVec.ofNat w n).toNat = n := by
  rw [BitVec.toNat_ofNat, Nat.mod_eq_of_lt h]

/-- The error of a result is at most the larger of its frequency and the target. -/
theorem search_err_le {fin target : Nat} {e : Bool} : ∀ r ∈ search fin target e, r.err ≤ max r.freq target := by
  unfold search
  split
  · simp
  · exact scanPairs_forall (fun _ _ _ _ _ => absDiff_le_max _ _) (by simp)

/-- Settles O10, from the bounds of R24 on a result and the bound on its error. -/
theorem resultFitsRegister : Obligations.ResultFitsRegister := by
  intro fin target e r hr
  obtain ⟨-, hn, hm, -, hd, hfreq⟩ := search_legal r hr
  have herr := search_err_le r hr
  have htarget := target.isLt
  exact ⟨toNat_ofNat_of_lt (by omega), toNat_ofNat_of_lt (by omega), toNat_ofNat_of_lt (by omega),
    toNat_ofNat_of_lt (by omega), toNat_ofNat_of_lt (by omega), hfreq, herr⟩

end Sys2Proof.Machine
end

section
/-! PROOFS. The step that takes a write of `CMD`, and the four commands that touch no hardware: the two of the PLL
search, the clamp and the mode (R70, R110, R120, R160, R170). -/

namespace Sys2Proof.Machine

/-! ### A write of `CMD` as a step (R70) -/

theorem step_of_attached_faulted {s : State} {r : FaultReason} (ha : s.attached = true) (hf : s.faulted = some r) :
    step s = .fault (.stopped r) := by
  simp [step, ha, hf]

theorem issue_of_busy {w : Word} {s : State} (hb : s.busy = true) : issue w s = .next (raise .busyIssue s) := by
  simp [issue, hb]

theorem issue_of_decode_ok {w : Word} {s : State} {i : Instr} (hb : s.busy = false) (hd : decode w = .ok i) :
    issue w s = exec i (latch w s) := by
  simp [issue, hb, hd]

theorem issue_of_decode_error {w : Word} {s : State} {e : DecodeError} (hb : s.busy = false)
    (hd : decode w = .error e) : issue w s = .next (finish .illegalCommand (latch w s)) := by
  simp [issue, hb, hd]

/-- An illegal word leaves an idle block as it was but for the latch, the status and `UPC` (R77; log entry 20). -/
theorem finish_latch_of_idle {s : State} (w : Word) (st : Status) (hb : s.busy = false) :
    finish st (latch w s) = { s with cmd := w, status := st, upc := .idle } := by
  simp [finish, latch, hb]

/-- Settles O1, by the checks in the order of R228: the fault mark, `BUSY`, then the word. -/
theorem stepRunsDecodedCommand : Obligations.StepRunsDecodedCommand := by
  intro s w rest ha hm
  refine ⟨fun r hf => step_of_attached_faulted ha hf, fun hf hb => ?_, fun hf hb i hd => ?_, fun hf hb e hd => ?_⟩
  all_goals rw [step_of_moves_cons ha hf hm, makeMove_writeCmd]
  · exact issue_of_busy hb
  · exact issue_of_decode_ok hb hd
  · have hissue := issue_of_decode_error (s := { s with moves := rest }) hb hd
    exact hissue.trans (congrArg _ (finish_latch_of_idle w .illegalCommand hb))

/-! ### The commands of the PLL search (R110, R120) -/

theorem exec_synth (e : Bool) (s : State) :
    exec (.synth e) s = .next (writeResult (search s.argFin.toNat s.argTarget.toNat e) s) := rfl

theorem exec_pllCalc (s : State) : exec .pllCalc s = .next (writeResult
    (select (search s.argFin.toNat s.argTarget.toNat false) (search s.argFin.toNat s.argTarget.toNat true)) s) := rfl

/-- Settles O13, by whether the run has a result. -/
theorem synthStoresResult : Obligations.SynthStoresResult := by
  intro e s
  refine ⟨fun r h => ?_, fun h => ?_⟩
  · rw [exec_synth, h]; rfl
  · rw [exec_synth, h]; rfl

/-- Settles O14, by whether the selection has a result. -/
theorem pllCalcStoresSelection : Obligations.PllCalcStoresSelection := by
  intro s
  refine ⟨fun r h => ?_, fun h => ?_⟩
  · rw [exec_pllCalc, h]; rfl
  · rw [exec_pllCalc, h]; rfl

/-! ### The clamp (R160) -/

theorem clampNat_of_lt_lo {x lo hi : Nat} (h : lo ≤ hi) (hx : x < lo) : clampNat x lo hi = lo := by
  unfold clampNat; omega

theorem clampNat_of_hi_lt {x lo hi : Nat} (hx : hi < x) : clampNat x lo hi = hi := by
  unfold clampNat; omega

theorem clampNat_of_mem {x lo hi : Nat} (hlo : lo ≤ x) (hhi : x ≤ hi) : clampNat x lo hi = x := by
  unfold clampNat; omega

/-- The clamped frequency fits `CLAMP_OUT` (R161). -/
theorem clampResult_lt (g : Gen) (f : Nat) : clampResult g f < 2 ^ 32 := by
  obtain ⟨hle, hmax⟩ := clamp_table g
  have ⟨_, hhi⟩ := clampNat_bounds f _ _ hle
  unfold clampResult
  omega

/-- Settles O15: `CLAMP_OUT` is the clamped target, which fits 32 bits, and inside the bounds that is the target. -/
theorem clampHoldsTargetInBounds : Obligations.ClampHoldsTargetInBounds := by
  intro s
  have hval := toNat_ofNat_of_lt (clampResult_lt s.cfg.gen s.argTarget.toNat)
  refine ⟨.ofNat 32 (clampResult s.cfg.gen s.argTarget.toNat), rfl, fun hlo => ?_, fun hhi => ?_, fun hlo hhi => ?_⟩
  · exact hval.trans (clampNat_of_lt_lo (clamp_table _).1 hlo)
  · exact hval.trans (clampNat_of_hi_lt hhi)
  · exact BitVec.eq_of_toNat_eq (hval.trans (clampNat_of_mem hlo hhi))

/-! ### The mode (R170) -/

theorem exec_setMode (mode : Nat) (s : State) : exec (.setMode mode) s = .next (storeMode mode s) := rfl

/-- Settles O17, by whether the mode is a member of `MODES`. -/
theorem setModeStoresMember : Obligations.SetModeStoresMember := by
  intro mode s
  rw [exec_setMode]
  obtain ⟨hin, hs⟩ | ⟨hout, hs⟩ := storeMode_cases mode s
  · rw [hs, if_pos hin]; rfl
  · rw [hs, if_neg (by simp [hout])]; rfl

end Sys2Proof.Machine
end

section
/-! PROOFS. The closed form of the PLL search (R108): the candidates in the order of R101, and that the loops with
their early end give the first of them of least error. -/

namespace Sys2Proof.Machine

/-! ### The candidates, in the order of the search (R101, R103) -/

/-- The candidates of one pair: one per output divider when the pair is legal, and none otherwise. -/
def pairCandidates (fin target : Nat) (e : Bool) (p : Nat × Nat) : List PllResult :=
  if legalPair fin e p.1 p.2 then divs.map (candidate fin target e p.1 p.2) else []

/-- Every candidate that the search would visit without its early end. -/
def candidates (fin target : Nat) (e : Bool) : List PllResult := pairs.flatMap (pairCandidates fin target e)

theorem mem_pairCandidates {fin target : Nat} {e : Bool} {p : Nat × Nat} {c : PllResult} :
    c ∈ pairCandidates fin target e p ↔
      legalPair fin e p.1 p.2 = true ∧ ∃ div ∈ divs, candidate fin target e p.1 p.2 div = c := by
  unfold pairCandidates
  split <;> simp [*]

/-- The model's domain and checks are the legality that the statements write out. -/
theorem claim_legal_iff {fin : Nat} {e : Bool} {np1 mp1 : Nat} :
    Claim.Legal fin e np1 mp1 ↔ (np1, mp1) ∈ pairs ∧ legalPair fin e np1 mp1 = true := by
  rw [mem_pairs, legalPair_iff]
  simp only [Claim.Legal, Claim.preDivider, and_assoc]

theorem mem_candidates {fin target : Nat} {e : Bool} {c : PllResult} :
    c ∈ candidates fin target e ↔ ∃ np1 mp1 div, Claim.Legal fin e np1 mp1 ∧ 1 ≤ div ∧ div ≤ 64
      ∧ candidate fin target e np1 mp1 div = c := by
  simp only [candidates, List.mem_flatMap, Prod.exists, mem_pairCandidates, claim_legal_iff, mem_divs]
  constructor
  · rintro ⟨np1, mp1, hp, hlegal, div, ⟨hd₁, hd₂⟩, hc⟩
    exact ⟨np1, mp1, div, ⟨hp, hlegal⟩, hd₁, hd₂, hc⟩
  · rintro ⟨np1, mp1, div, ⟨hp, hlegal⟩, hd₁, hd₂, hc⟩
    exact ⟨np1, mp1, hp, hlegal, div, ⟨hd₁, hd₂⟩, hc⟩

/-- The order of R101 on candidates: by `N`, then by `M`, then by `DIV`. -/
def PllResult.Before (c c' : PllResult) : Prop :=
  c.n < c'.n ∨ (c.n = c'.n ∧ (c.m < c'.m ∨ (c.m = c'.m ∧ c.div < c'.div)))

/-- The pairs ascend by `N+1`, and by `M+1` for one `N+1`. -/
theorem pairs_ascend : pairs.Pairwise fun p q => p.1 < q.1 ∨ (p.1 = q.1 ∧ p.2 < q.2) := by
  rw [pairs, List.pairwise_flatMap]
  refine ⟨fun np1 _ => ?_, ?_⟩
  · rw [List.pairwise_map]
    exact (List.pairwise_lt_range' 1).imp fun hlt => .inr ⟨rfl, hlt⟩
  · refine (List.pairwise_lt_range' 1).imp fun hlt => ?_
    simp only [List.forall_mem_map]
    exact fun _ _ _ _ => .inl hlt

/-- The candidates stand in the order of R101. -/
theorem candidates_ascend (fin target : Nat) (e : Bool) :
    (candidates fin target e).Pairwise PllResult.Before := by
  rw [candidates, List.pairwise_flatMap]
  refine ⟨fun p _ => ?_, pairs_ascend.imp_of_mem fun {p q} hp hq hlt c hc c' hc' => ?_⟩
  · unfold pairCandidates
    split
    · rw [List.pairwise_map]
      exact (List.pairwise_lt_range' 1).imp fun hlt => .inr ⟨rfl, .inr ⟨rfl, hlt⟩⟩
    · exact .nil
  · obtain ⟨-, div, -, rfl⟩ := mem_pairCandidates.mp hc
    obtain ⟨-, div', -, rfl⟩ := mem_pairCandidates.mp hc'
    have ⟨_, _, _, _⟩ := mem_pairs.mp hp
    have ⟨_, _, _, _⟩ := mem_pairs.mp hq
    simp only [PllResult.Before, candidate]
    omega

/-! ### The first of least error (R104, R105) -/

/-- `r` stands in the list, every result before it has a larger error, and none after it has a smaller one. -/
def FirstLeast (l : List PllResult) (r : PllResult) : Prop :=
  ∃ before after, l = before ++ r :: after ∧ (∀ c ∈ before, r.err < c.err) ∧ ∀ c ∈ after, r.err ≤ c.err

theorem FirstLeast.mem {l : List PllResult} {r : PllResult} (h : FirstLeast l r) : r ∈ l := by
  obtain ⟨before, after, rfl, -, -⟩ := h
  simp

theorem FirstLeast.err_le {l : List PllResult} {r c : PllResult} (h : FirstLeast l r) (hc : c ∈ l) :
    r.err ≤ c.err := by
  obtain ⟨before, after, rfl, hbefore, hafter⟩ := h
  obtain hc | rfl | hc : c ∈ before ∨ c = r ∨ c ∈ after := by simpa using hc
  · exact (hbefore c hc).le
  · exact le_rfl
  · exact hafter c hc

/-- In an ordered list every other result of the same error comes later. -/
theorem FirstLeast.eq_or_before {l : List PllResult} {r c : PllResult} (h : FirstLeast l r)
    (hord : l.Pairwise PllResult.Before) (hc : c ∈ l) (herr : c.err = r.err) : c = r ∨ r.Before c := by
  obtain ⟨before, after, rfl, hbefore, -⟩ := h
  obtain ⟨-, hord, -⟩ := List.pairwise_append.mp hord
  obtain hc | rfl | hc : c ∈ before ∨ c = r ∨ c ∈ after := by simpa using hc
  · exact absurd herr (hbefore c hc).ne'
  · exact .inl rfl
  · exact .inr (List.rel_of_pairwise_cons hord hc)

/-- Results of no smaller error may follow. -/
theorem FirstLeast.append {l : List PllResult} {r : PllResult} (h : FirstLeast l r) {rest : List PllResult}
    (hrest : ∀ c ∈ rest, r.err ≤ c.err) : FirstLeast (l ++ rest) r := by
  obtain ⟨before, after, rfl, hbefore, hafter⟩ := h
  exact ⟨before, after ++ rest, by simp, hbefore, List.forall_mem_append.mpr ⟨hafter, hrest⟩⟩

/-- What the best so far is of the candidates visited: the first of least error, and none while there is none. -/
def BestOf (visited : List PllResult) : Option PllResult → Prop
  | none => visited = []
  | some r => FirstLeast visited r

/-- One more candidate, by whether it beats the best (R104). -/
theorem BestOf.better {visited : List PllResult} {best : Option PllResult} (h : BestOf visited best)
    (c : PllResult) : BestOf (visited ++ [c]) (better best c) := by
  obtain ⟨hb, hlt⟩ | ⟨b, rfl, hb, hle⟩ := better_cases best c
  · rw [hb]
    refine ⟨visited, [], rfl, fun c' hc' => ?_, by simp⟩
    cases best with
    | none => simp [show visited = [] from h] at hc'
    | some b => exact (hlt b rfl).trans_le (FirstLeast.err_le h hc')
  · rw [hb]
    exact FirstLeast.append h (by simpa using hle)

/-- An exact match stays the first of least error, whatever would follow: the early end of R105 loses nothing. -/
theorem BestOf.append_of_isExact {visited : List PllResult} {best : Option PllResult} (h : BestOf visited best)
    (hexact : isExact best = true) (rest : List PllResult) : BestOf (visited ++ rest) best := by
  obtain ⟨b, rfl, herr⟩ := (isExact_iff best).mp hexact
  exact FirstLeast.append h (by simp [herr])

theorem BestOf.scanDivs {fin target : Nat} {e : Bool} {np1 mp1 : Nat} {visited : List PllResult}
    {best : Option PllResult} (h : BestOf visited best) (ds : List Nat) :
    BestOf (visited ++ ds.map (candidate fin target e np1 mp1)) (scanDivs fin target e np1 mp1 ds best) := by
  induction ds generalizing visited best with
  | nil => simpa [Machine.scanDivs] using h
  | cons d ds ih =>
    have hbest := h.better (candidate fin target e np1 mp1 d)
    rw [List.map_cons, List.append_cons]
    simp only [Machine.scanDivs]
    split
    · exact hbest.append_of_isExact ‹_› _
    · exact ih hbest

theorem BestOf.scanPairs {fin target : Nat} {e : Bool} {visited : List PllResult} {best : Option PllResult}
    (h : BestOf visited best) (ps : List (Nat × Nat)) :
    BestOf (visited ++ ps.flatMap (pairCandidates fin target e)) (scanPairs fin target e ps best) := by
  induction ps generalizing visited best with
  | nil => simpa [Machine.scanPairs] using h
  | cons p ps ih =>
    rw [List.flatMap_cons, ← List.append_assoc]
    simp only [Machine.scanPairs]
    split
    · rename_i hlegal
      have hbest := h.scanDivs (fin := fin) (target := target) (e := e) (np1 := p.1) (mp1 := p.2) divs
      rw [pairCandidates, if_pos hlegal]
      split
      · exact hbest.append_of_isExact ‹_› _
      · exact ih hbest
    · rename_i hlegal
      rw [pairCandidates, if_neg hlegal, List.append_nil]
      exact ih h

/-! ### The closed form of the search (R100, R108) -/

/-- The input range of R100. -/
def FinInRange (fin : Nat) : Prop := 12000000 ≤ fin ∧ fin ≤ 192000000

theorem search_of_not_finInRange {fin : Nat} (h : ¬ FinInRange fin) (target : Nat) (e : Bool) :
    search fin target e = none := by
  refine if_pos ?_
  simp only [FinInRange, finMin, finMax] at *
  omega

theorem finInRange_of_search_eq_some {fin target : Nat} {e : Bool} {r : PllResult}
    (h : search fin target e = some r) : FinInRange fin := by
  by_contra hfin
  simp [search_of_not_finInRange hfin] at h

/-- In range, the search gives the first candidate of least error, and none when there is no candidate. -/
theorem search_bestOf {fin : Nat} (h : FinInRange fin) (target : Nat) (e : Bool) :
    BestOf (candidates fin target e) (search fin target e) := by
  have hsearch : search fin target e = scanPairs fin target e pairs none := by
    refine if_neg ?_
    simp only [FinInRange, finMin, finMax] at *
    omega
  rw [hsearch]
  exact BestOf.scanPairs (visited := []) (best := none) rfl pairs

theorem search_firstLeast {fin target : Nat} {e : Bool} {r : PllResult} (h : search fin target e = some r) :
    FirstLeast (candidates fin target e) r := by
  have hbest := search_bestOf (finInRange_of_search_eq_some h) target e
  rwa [h] at hbest

/-- In range, a legal candidate makes the search have a result, of no larger error. -/
theorem exists_search_le {fin : Nat} (hfin : FinInRange fin) (target : Nat) {e : Bool} {np1 mp1 div : Nat}
    (hlegal : Claim.Legal fin e np1 mp1) (hd₁ : 1 ≤ div) (hd₂ : div ≤ 64) :
    ∃ r, search fin target e = some r ∧ r.err ≤ (candidate fin target e np1 mp1 div).err := by
  have hmem : candidate fin target e np1 mp1 div ∈ candidates fin target e :=
    mem_candidates.mpr ⟨np1, mp1, div, hlegal, hd₁, hd₂, rfl⟩
  have hbest := search_bestOf hfin target e
  cases hsearch : search fin target e with
  | none =>
    rw [hsearch] at hbest
    simp [show candidates fin target e = [] from hbest] at hmem
  | some r => exact ⟨r, rfl, (search_firstLeast hsearch).err_le hmem⟩

/-- A result is the candidate of a legal pair and a divider. -/
theorem search_eq_candidate {fin target : Nat} {e : Bool} {r : PllResult} (h : search fin target e = some r) :
    ∃ np1 mp1 div, Claim.Legal fin e np1 mp1 ∧ 1 ≤ div ∧ div ≤ 64 ∧ candidate fin target e np1 mp1 div = r :=
  mem_candidates.mp (search_firstLeast h).mem

theorem search_e {fin target : Nat} {e : Bool} {r : PllResult} (h : search fin target e = some r) : r.e = e := by
  obtain ⟨np1, mp1, div, -, -, -, rfl⟩ := search_eq_candidate h
  rfl

theorem absDiff_eq_distance (a b : Nat) : absDiff a b = Claim.distance a b := by
  unfold absDiff Claim.distance
  split <;> omega

/-- The error of a candidate as the statements write it out. -/
theorem candidate_err (fin target : Nat) (e : Bool) (np1 mp1 div : Nat) :
    (candidate fin target e np1 mp1 div).err = Claim.distance (Claim.output fin e np1 mp1 div) target :=
  absDiff_eq_distance _ _

/-- A candidate as the statements write it out. -/
theorem candidate_eq (fin target : Nat) (e : Bool) (np1 mp1 div : Nat) :
    candidate fin target e np1 mp1 div =
      { n := np1 - 1, m := mp1 - 1, e := e, div := div, freq := Claim.output fin e np1 mp1 div,
        err := Claim.distance (Claim.output fin e np1 mp1 div) target } := by
  rw [← candidate_err]
  rfl

/-- Settles O6: the result is the first of least error among `candidates`, which stand in the order of R101. -/
theorem searchIsFirstLeastError : Obligations.SearchIsFirstLeastError := by
  intro fin target e r h
  have hfirst := search_firstLeast h
  obtain ⟨np1, mp1, div, hlegal, hd₁, hd₂, rfl⟩ := search_eq_candidate h
  refine ⟨np1, mp1, div, hlegal, hd₁, hd₂, candidate_eq .., fun np1' mp1' div' hlegal' hd₁' hd₂' => ?_⟩
  have hmem : candidate fin target e np1' mp1' div' ∈ candidates fin target e :=
    mem_candidates.mpr ⟨np1', mp1', div', hlegal', hd₁', hd₂', rfl⟩
  rw [← candidate_err]
  refine ⟨hfirst.err_le hmem, fun herr => ?_⟩
  have ⟨_, _, _, _, _⟩ := hlegal
  have ⟨_, _, _, _, _⟩ := hlegal'
  obtain heq | hbefore := hfirst.eq_or_before (candidates_ascend fin target e) hmem herr
  · simp only [candidate, PllResult.mk.injEq] at heq
    omega
  · simp only [PllResult.Before, candidate] at hbefore
    omega

end Sys2Proof.Machine
end

section
/-! PROOFS. What follows from the closed form: when a search has no result, the laws of a result, and the selection of
`PLL_CALC` (R106, R109, R121, R122). -/

namespace Sys2Proof.Machine

/-! ### When there is no result (R106, R122) -/

/-- There is no result exactly when the input is out of range or no pair is legal (R100, R106). -/
theorem search_eq_none_iff {fin target : Nat} {e : Bool} :
    search fin target e = none ↔ ¬ FinInRange fin ∨ ∀ np1 mp1, ¬ Claim.Legal fin e np1 mp1 := by
  constructor
  · intro hnone
    by_contra! hsome
    obtain ⟨hfin, np1, mp1, hlegal⟩ := hsome
    obtain ⟨r, hr, -⟩ := exists_search_le hfin target hlegal (div := 1) le_rfl (by omega)
    simp [hnone] at hr
  · rintro (hfin | hno)
    · exact search_of_not_finInRange hfin target e
    · refine Option.eq_none_iff_forall_ne_some.mpr fun r hr => ?_
      obtain ⟨np1, mp1, -, hlegal, -⟩ := search_eq_candidate hr
      exact hno np1 mp1 hlegal

/-- From 168 000 007 Hz on the phase detector is too fast even with `M+1 = 7`. -/
theorem not_legal_of_fast {fin : Nat} (h : 168000007 ≤ fin) (e : Bool) (np1 mp1 : Nat) :
    ¬ Claim.Legal fin e np1 mp1 := by
  rintro ⟨-, -, hm₁, hm₂, -, -, -, hpfd, -⟩
  have hseven : fin / 7 ≤ fin / mp1 := Nat.div_le_div_left hm₂ hm₁
  omega

/-- At 20 MHz only `M+1 = 1` drives the phase detector fast enough, and the VCO is then above the pre-divider limit. -/
theorem not_legal_20MHz (np1 mp1 : Nat) : ¬ Claim.Legal 20000000 false np1 mp1 := by
  rintro ⟨hn, -, hm, -, -, -, hpfd, -, hpre⟩
  have hone : mp1 = 1 := by
    have := (Nat.le_div_iff_mul_le hm).mp hpfd
    omega
  subst hone
  simp only [Claim.preDivider, Bool.false_eq_true, if_false, Nat.div_one] at hpre
  omega

/-- The VCO frequency from the floored phase-detector frequency. -/
theorem fvco_bounds_of_fpfd (fin np1 : Nat) {mp1 : Nat} (h : 1 ≤ mp1) :
    fin / mp1 * np1 ≤ fin * np1 / mp1 ∧ fin * np1 / mp1 ≤ (fin / mp1 + 1) * np1 := by
  constructor
  · rw [Nat.le_div_iff_mul_le h, Nat.mul_right_comm]
    exact Nat.mul_le_mul_right np1 (Nat.div_mul_le_self fin mp1)
  · refine Nat.div_le_of_le_mul ?_
    rw [← Nat.mul_assoc]
    exact Nat.mul_le_mul_right np1 (Nat.lt_mul_div_succ fin h).le

/-- With the extra divider a pair in the VCO and phase-detector bands is past every check (R109). -/
theorem claim_legal_of_bands {fin np1 mp1 : Nat} (hn : 60 ≤ np1 ∧ np1 ≤ 120) (hm : 1 ≤ mp1 ∧ mp1 ≤ 7)
    (hvco : 900000000 ≤ fin * np1 / mp1 ∧ fin * np1 / mp1 ≤ 1800000000)
    (hpfd : 12000000 ≤ fin / mp1 ∧ fin / mp1 ≤ 24000000) : Claim.Legal fin true np1 mp1 := by
  simp only [Claim.Legal, Claim.preDivider, if_true]
  omega

/-- R122: with `M+1` the least that slows the phase detector to 24 MHz, either `N+1 = 75` or `N+1 = 60` brings the VCO
into its band. -/
theorem exists_legal_extraDivider {fin : Nat} (hlo : 12000000 ≤ fin) (hhi : fin ≤ 168000006) :
    ∃ np1 mp1, Claim.Legal fin true np1 mp1 := by
  obtain ⟨mp1, hmp1⟩ : ∃ mp1, mp1 = fin / 24000001 + 1 := ⟨_, rfl⟩
  have hm : 1 ≤ mp1 ∧ mp1 ≤ 7 := by omega
  have hpfd : 12000000 ≤ fin / mp1 ∧ fin / mp1 ≤ 24000000 := by
    have hlt : fin / mp1 < 24000001 := (Nat.div_lt_iff_lt_mul hm.1).mpr (by omega)
    exact ⟨(Nat.le_div_iff_mul_le hm.1).mpr (by omega), by omega⟩
  by_cases hslow : fin / mp1 < 15000000
  · have := fvco_bounds_of_fpfd fin 75 hm.1
    exact ⟨75, mp1, claim_legal_of_bands (by omega) hm (by omega) hpfd⟩
  · have := fvco_bounds_of_fpfd fin 60 hm.1
    exact ⟨60, mp1, claim_legal_of_bands (by omega) hm (by omega) hpfd⟩

theorem search_extraDivider_ne_none {fin : Nat} (hlo : 12000000 ≤ fin) (hhi : fin ≤ 168000006) (target : Nat) :
    search fin target true ≠ none := by
  obtain ⟨np1, mp1, hlegal⟩ := exists_legal_extraDivider hlo hhi
  rw [Ne, search_eq_none_iff]
  rintro (hfin | hno)
  · exact hfin ⟨hlo, by omega⟩
  · exact hno np1 mp1 hlegal

/-- Settles O7, from `search_eq_none_iff`; the named frequencies by the checks that reject or pass every pair there. -/
theorem searchEmptyExactly : Obligations.SearchEmptyExactly := by
  refine ⟨fun fin target e => ?_, fun fin target e hlo _ => ?_, fun target => ?_, fun target => ?_⟩
  · rw [search_eq_none_iff, FinInRange, not_and_or, Nat.not_le, Nat.not_le, or_assoc]
  · exact search_eq_none_iff.mpr (.inr (not_legal_of_fast hlo e))
  · exact search_eq_none_iff.mpr (.inr not_legal_20MHz)
  · exact search_extraDivider_ne_none (by omega) le_rfl target

/-! ### The laws of a result (R109) -/

theorem output_eq (fin : Nat) (e : Bool) (np1 mp1 div : Nat) :
    Claim.output fin e np1 mp1 div = fin * np1 / mp1 / 2 ^ e.toNat / 7 / div := by
  cases e <;> simp [Claim.output, Claim.preDivider]

/-- Settles O8: a result is the candidate of a legal pair, and the laws of the checks are those of `legalPair_iff`. -/
theorem searchResultLaws : Obligations.SearchResultLaws := by
  refine ⟨fun fin target e r h => ?_, fun fin np1 mp1 h => ?_, fun fin np1 mp1 h => ?_,
    fun fin np1 mp1 hv₁ hv₂ hp₁ hp₂ => ?_⟩
  · obtain ⟨hn₁, hn₂, hm, hd₁, hd₂, hfreq⟩ := search_legal r h
    obtain ⟨np1, mp1, div, ⟨hnp, -, hmp, -, hv₁, hv₂, hp₁, hp₂, -⟩, -, -, rfl⟩ := search_eq_candidate h
    rw [candidate_eq] at hfreq hn₁ hn₂ hm hd₁ hd₂ ⊢
    simp only [Nat.sub_add_cancel hmp, Nat.sub_add_cancel (show 1 ≤ np1 by omega)]
    exact ⟨hn₁, hn₂, hm, trivial, hd₁, hd₂, hp₁, hp₂, hv₁, hv₂, output_eq .., hfreq, trivial⟩
  · obtain ⟨-, -, -, -, hpre⟩ := legalPair_iff.mp h
    exact hpre
  · simp only [foutPre, extraDiv, if_true]
    omega
  · refine legalPair_iff.mpr ⟨hv₁, hv₂, hp₁, hp₂, ?_⟩
    simp only [fvco, if_true] at *
    omega

/-! ### The selection of `PLL_CALC` (R121, R122) -/

theorem select_eq_none_iff {r0 r1 : Option PllResult} : select r0 r1 = none ↔ r0 = none ∧ r1 = none := by
  obtain ⟨rfl, h⟩ | ⟨rfl, h⟩ | ⟨b0, b1, rfl, rfl, -, h⟩ | ⟨b0, b1, rfl, rfl, -, h⟩ := select_cases r0 r1
  all_goals simp [h]

/-- A selected result is that of the first run, or that of the second run, which then beats any of the first. -/
theorem eq_of_select_eq_some {r0 r1 : Option PllResult} {r : PllResult} (h : select r0 r1 = some r) :
    (r0 = some r ∧ ∀ b1 ∈ r1, r.err ≤ b1.err) ∨ (r1 = some r ∧ ∀ b0 ∈ r0, r.err < b0.err) := by
  obtain ⟨rfl, hs⟩ | ⟨rfl, hs⟩ | ⟨b0, b1, rfl, rfl, hlt, hs⟩ | ⟨b0, b1, rfl, rfl, hle, hs⟩ := select_cases r0 r1
  all_goals rw [hs] at h
  · exact .inr ⟨h, by simp⟩
  · exact .inl ⟨h, by simp⟩
  · cases h; exact .inr ⟨rfl, by simpa using hlt⟩
  · cases h; exact .inl ⟨rfl, by simpa using hle⟩

/-- Settles O11, by the cases of `select`. -/
theorem selectionKeepsSmallerError : Obligations.SelectionKeepsSmallerError := by
  refine ⟨fun _ => rfl, fun r0 => ?_, fun r0 r1 hlt => if_pos hlt, fun r0 r1 hle => if_neg hle.not_gt⟩
  cases r0 <;> rfl

/-- Settles O9: the run with the extra divider has a result by `exists_legal_extraDivider`, and so has the selection. -/
theorem extraDividerRunNeverEmpty : Obligations.ExtraDividerRunNeverEmpty := by
  intro fin target hlo hhi
  have hrun := search_extraDivider_ne_none hlo hhi target
  exact ⟨hrun, fun hnone => hrun (select_eq_none_iff.mp hnone).2⟩

/-- A result of `PLL_CALC` is that of one run; a result of the other has no smaller error, and a larger one if it is the
run without the extra divider. -/
theorem pllCalcResult_eq_some {fin target : Nat} {r : PllResult} (h : pllCalcResult fin target = some r) :
    search fin target r.e = some r
      ∧ ∀ e, ∀ b ∈ search fin target e, r.err ≤ b.err ∧ (b.err = r.err → e = false → r.e = false) := by
  obtain ⟨hr, hle⟩ | ⟨hr, hlt⟩ := eq_of_select_eq_some h
  · have he := search_e hr
    refine ⟨he ▸ hr, fun e b hb => ⟨?_, fun _ _ => he⟩⟩
    cases e with
    | false => exact (Option.mem_unique hr hb ▸ le_rfl)
    | true => exact hle b hb
  · have he := search_e hr
    refine ⟨he ▸ hr, fun e b hb => ?_⟩
    cases e with
    | false =>
      have := hlt b hb
      exact ⟨this.le, fun herr => by omega⟩
    | true => exact ⟨(Option.mem_unique hr hb ▸ le_rfl), nofun⟩

/-- Settles O12: every legal candidate is matched by the result of its run, and that by the selected one. -/
theorem pllCalcBestOfBothRuns : Obligations.PllCalcBestOfBothRuns := by
  refine ⟨fun fin target r h => ?_, fun fin target => select_eq_none_iff⟩
  obtain ⟨hrun, hbest⟩ := pllCalcResult_eq_some h
  refine ⟨hrun, fun e np1 mp1 div hlegal hd₁ hd₂ => ?_⟩
  obtain ⟨b, hb, hle⟩ := exists_search_le (finInRange_of_search_eq_some hrun) target hlegal hd₁ hd₂
  obtain ⟨hrle, hprefer⟩ := hbest e b hb
  rw [candidate_err] at hle
  refine ⟨hrle.trans hle, fun herr he => hprefer ?_ he⟩
  subst he
  omega

end Sys2Proof.Machine
end

section
/-! PROOFS. The commands other than `ENABLE` and `DISABLE` touch no hardware (R196). -/

namespace Sys2Proof.Machine

/-- Whether there is a result or not, `PLLRES` is written and the command ends (R110). -/
theorem writeResult_eq_finish (r : Option PllResult) (s : State) :
    ∃ res status, writeResult r s = finish status { s with pllRes := res } := by
  obtain ⟨p, -, hw⟩ | ⟨-, hw⟩ := writeResult_cases r s
  · exact ⟨_, _, hw⟩
  · exact ⟨_, _, hw⟩

/-- Whether the mode is stored or illegal, the command ends (R170). -/
theorem storeMode_eq_finish (mode : Nat) (s : State) :
    ∃ mode' status, storeMode mode s = finish status { s with mode := mode' } := by
  obtain ⟨-, hm⟩ | ⟨-, hm⟩ := storeMode_cases mode s
  · exact ⟨_, _, hm⟩
  · exact ⟨_, _, hm⟩

/-- A command other than `ENABLE` and `DISABLE` writes only the result registers, the mode, and the command's end. -/
theorem exec_quiet {i : Instr} {s t : State} (hen : i ≠ .enable) (hdis : ∀ keep, i ≠ .disable keep)
    (h : exec i s = .next t) : ∃ res mode clamp status,
      t = finish status { s with pllRes := res, mode := mode, clampOut := clamp } := by
  cases i with
  | synth e => cases h; obtain ⟨res, status, hw⟩ := writeResult_eq_finish _ s; exact ⟨res, _, _, status, hw⟩
  | pllCalc => cases h; obtain ⟨res, status, hw⟩ := writeResult_eq_finish _ s; exact ⟨res, _, _, status, hw⟩
  | clamp => cases h; exact ⟨_, _, _, _, rfl⟩
  | setMode mode => cases h; obtain ⟨mode', status, hm⟩ := storeMode_eq_finish mode s; exact ⟨_, mode', _, status, hm⟩
  | enable => exact absurd rfl hen
  | disable keep => exact absurd rfl (hdis keep)

/-- Settles O29: a quiet command has the form of `exec_quiet`, in which no field of the hardware occurs. -/
theorem quietCommandsTouchNoHardware : Obligations.QuietCommandsTouchNoHardware := by
  intro i s t hen hdis h
  obtain ⟨res, mode, clamp, status, rfl⟩ := exec_quiet hen hdis h
  refine ⟨rfl, rfl, rfl, rfl, rfl, rfl, rfl, rfl, rfl, rfl, rfl, rfl, fun a => ?_⟩
  exact (WritesOnly.of_eq (P := fun _ => False) rfl rfl).blockByte_eq nofun

end Sys2Proof.Machine
end

section
/-! PROOFS. The commands `ENABLE` and `DISABLE` path by path, each with the whole state it leaves (R140 to R153). -/

namespace Sys2Proof.Machine

/-! ### The paths of the two commands, one equation each (R140, R147, R148, R150 to R152) -/

theorem exec_enable (s : State) : exec .enable s = .next (enable s) := rfl

theorem exec_disable (keep : Bool) (s : State) : exec (.disable keep) s = .next (disable keep s) := rfl

theorem enable_of_enabled {s : State} (hen : s.seqState = .enabled) : enable s = finish .ok s := by
  simp [enable, hen]

theorem enable_of_no_result {s : State} (hdis : s.seqState = .disabled) (htopo : s.cfg.topo = .shared)
    (hres : s.pllRes = none) : enable s = raise .noPllResult s := by
  simp [enable, hdis, htopo, hres]

theorem enable_of_legacy {s : State} (hdis : s.seqState = .disabled) (htopo : s.cfg.topo = .legacy) :
    enable s = legacyEnable s := by
  simp [enable, hdis, htopo]

theorem enable_of_result {s : State} {r : PllRegister} (hdis : s.seqState = .disabled)
    (htopo : s.cfg.topo = .shared) (hres : s.pllRes = some r) : enable s = sharedEnable r s := by
  simp [enable, hdis, htopo, hres]

theorem legacyEnable_of_clock {s : State} (hok : clkOutcome s = true) :
    legacyEnable s = legacyPowerUp (startClock s) := by
  simp [legacyEnable, hok]

theorem sharedEnable_of_clock {s : State} (r : PllRegister) (hok : clkOutcome s = true) :
    sharedEnable r s = sharedPowerUp r (startClock s) := by
  simp [sharedEnable, hok]

/-- A clock that does not start ends the power-up the same way in both topologies (R143). -/
theorem enable_of_clock_failure {s : State} (hdis : s.seqState = .disabled)
    (hready : s.cfg.topo = .legacy ∨ ∃ r, s.pllRes = some r) (hfail : clkOutcome s = false) :
    enable s = clockFail (startClock s) := by
  cases htopo : s.cfg.topo with
  | legacy => simp [enable_of_legacy hdis htopo, legacyEnable, hfail]
  | shared =>
    obtain ⟨r, hres⟩ : ∃ r, s.pllRes = some r := by simpa [htopo] using hready
    simp [enable_of_result hdis htopo hres, sharedEnable, hfail]

theorem disable_of_disabled {s : State} (keep : Bool) (hdis : s.seqState = .disabled) :
    disable keep s = finish .invalidConfiguration s := by
  simp [disable, hdis]

theorem disable_of_keep {s : State} (hen : s.seqState = .enabled) (htopo : s.cfg.topo = .shared) :
    disable true s = finish .ok { s with seqState := .disabled } := by
  simp [disable, hen, htopo]

theorem disable_of_teardown {s : State} {keep : Bool} (hen : s.seqState = .enabled)
    (hfull : s.cfg.topo = .legacy ∨ keep = false) : disable keep s = finish .ok (teardown s) := by
  obtain ⟨hdis, -⟩ | ⟨-, hshared, hkeep, -⟩ | ⟨-, -, h⟩ := disable_cases keep s
  · simp [hen] at hdis
  · simp [hshared, hkeep] at hfull
  · exact h

/-! ### Each bus event as a micro-step, whole (R190 to R195) -/

theorem microStep_resetDeassert (u : Upc) (s : State) :
    microStep u .resetDeassert s = { s with upc := u, hist := s.hist ++ [.resetDeassert], rst := .deasserted } := rfl

theorem microStep_clkEnable (u : Upc) (ok : Bool) (s : State) :
    microStep u (.clkEnable ok) s = { s with upc := u, hist := s.hist ++ [.clkEnable ok],
                                             clk := if ok then .on else s.clk } := rfl

theorem microStep_regWrite (u : Upc) (w : RegWrite) (s : State) :
    microStep u (.regWrite w) s = { s with upc := u, hist := s.hist ++ [.regWrite w], dev := s.dev.write w,
                                           lockKnown := lockAfter s.cfg.topo s.lockKnown w } := rfl

theorem microStep_delay (u : Upc) (t : Nat) (s : State) :
    microStep u (.delay t) s = { s with upc := u, hist := s.hist ++ [.delay t], busy := true,
                                        timer := .running t } := rfl

theorem microStep_clkDisable (u : Upc) (s : State) :
    microStep u .clkDisable s = { s with upc := u, hist := s.hist ++ [.clkDisable], clk := .off,
                                         lockKnown := false } := rfl

theorem microStep_resetAssert (u : Upc) (s : State) :
    microStep u .resetAssert s = { s with upc := u, hist := s.hist ++ [.resetAssert], rst := .asserted,
                                          lockKnown := false } := rfl

/-! ### The whole state after a sequence -/

/-- Reset release and the clock request, by the clock controller's answer (R140, R192). -/
theorem startClock_eq {s : State} {ok : Bool} (h : clkOutcome s = ok) :
    startClock s = { s with hist := s.hist ++ [.resetDeassert, .clkEnable ok], rst := .deasserted,
                            clk := if ok then .on else s.clk, upc := .enClk,
                            clkAnswers := s.clkAnswers.tail, clkCount := s.clkCount + 1 } := by
  simp [startClock, h, microStep_resetDeassert, microStep_clkEnable, consumeClk]

/-- Reset asserted again, and the command's end (R143). -/
theorem clockFail_eq (s : State) :
    clockFail s = { s with hist := s.hist ++ [.resetAssert], rst := .asserted, lockKnown := false,
                           status := .clockEnableFailure, busy := false, upc := .idle } := rfl

/-! ### `ENABLE` -/

/-- Settles O18: the first check of `ENABLE` ends the command (R228). -/
theorem enableWhileEnabledIsNoOp : Obligations.EnableWhileEnabledIsNoOp := by
  intro s hen
  rw [exec_enable, enable_of_enabled hen]
  rfl

/-- Settles O19: the second check of `ENABLE` comes before its first event (R228). -/
theorem enableSharedWithoutResultFaults : Obligations.EnableSharedWithoutResultFaults := by
  intro s hdis htopo hres
  rw [exec_enable, enable_of_no_result hdis htopo hres]
  rfl

/-- Settles O20: the two events of `startClock_eq` with the answer 0, then that of `clockFail_eq`. -/
theorem enableClockFailure : Obligations.EnableClockFailure := by
  intro s hdis hready hfail
  rw [exec_enable, enable_of_clock_failure hdis hready hfail, startClock_eq hfail, clockFail_eq]
  simp

/-- Settles O21: after `startClock_eq`, the common writes and the legacy branch, one micro-step each. The
programming of the PLL forgets the lock, and in `LEGACY` no later write of `REG_EN` brings it back. -/
theorem enableLegacyRunsToSettleDelay : Obligations.EnableLegacyRunsToSettleDelay := by
  intro s hdis htopo hok
  obtain ⟨hmin, hmax⟩ := settleTime_bounds s
  refine ⟨settleTime s, hmin, hmax, ?_⟩
  rw [exec_enable, enable_of_legacy hdis htopo, legacyEnable_of_clock hok, startClock_eq hok]
  simp [legacyPowerUp, commonSteps, legacySteps, routeWrite, chanWrite, enWrite, microStep_regWrite,
    microStep_delay, consumeSettle, targetKHz, settleTime, DeviceRegs.write, lockAfter, htopo]

/-- Settles O23: the same with the shared branch, where the first write of `PLLEN` makes the lock known. -/
theorem enableSharedPowersUp : Obligations.EnableSharedPowersUp := by
  intro s r hdis htopo hres hok
  rw [exec_enable, enable_of_result hdis htopo hres, sharedEnable_of_clock r hok, startClock_eq hok]
  simp [sharedPowerUp, commonSteps, sharedSteps, routeWrite, chanWrite, enWrite, microStep_regWrite,
    finish, DeviceRegs.write, lockAfter, htopo]

/-! ### `ENABLE` in `SHARED` and the target latch (R145) -/

/-- The state with another word in `ARG_TARGET`. -/
def withTarget (f : Word) (s : State) : State := { s with argTarget := f }

/-- An event, and its micro-step, neither read nor write the operand latches. -/
theorem microStep_withTarget (f : Word) (u : Upc) (ev : Event) (s : State) :
    microStep u ev (withTarget f s) = withTarget f (microStep u ev s) := by
  cases ev <;> rfl

theorem runSteps_withTarget (f : Word) (steps : List (Upc × Event)) (s : State) :
    runSteps steps (withTarget f s) = withTarget f (runSteps steps s) := by
  induction steps generalizing s with
  | nil => rfl
  | cons p rest ih =>
    obtain ⟨u, ev⟩ := p
    rw [runSteps_cons, runSteps_cons, microStep_withTarget, ih]

theorem startClock_withTarget (f : Word) (s : State) :
    startClock (withTarget f s) = withTarget f (startClock s) :=
  congrArg consumeClk (runSteps_withTarget f _ s)

theorem clockFail_withTarget (f : Word) (s : State) : clockFail (withTarget f s) = withTarget f (clockFail s) := rfl

theorem commonSteps_withTarget (f : Word) (s : State) : commonSteps (withTarget f s) = commonSteps s := rfl

/-- The shared branch takes its events from the configuration, the mode and the PLL result alone (R142). -/
theorem sharedSteps_withTarget (f : Word) (s : State) (r : PllRegister) :
    sharedSteps (withTarget f s) r = sharedSteps s r := rfl

theorem sharedPowerUp_withTarget (f : Word) (r : PllRegister) (s : State) :
    sharedPowerUp r (withTarget f s) = withTarget f (sharedPowerUp r s) := by
  rw [sharedPowerUp, commonSteps_withTarget, sharedSteps_withTarget, runSteps_withTarget]
  rfl

/-- Each path of `ENABLE` in `SHARED` is the same with another target: only the legacy branch reads it. -/
theorem enable_withTarget (f : Word) {s : State} (htopo : s.cfg.topo = .shared) :
    enable (withTarget f s) = withTarget f (enable s) := by
  obtain ⟨hen, h⟩ | ⟨hdis, -, hres, h⟩ | ⟨hdis, hfail, hready, h⟩ | ⟨-, hlegacy, -⟩ | ⟨r, hdis, -, hres, hok, h⟩ :=
    enable_cases s
  · rw [h, enable_of_enabled (s := withTarget f s) hen]; rfl
  · rw [h, enable_of_no_result (s := withTarget f s) hdis htopo hres]; rfl
  · rw [h, enable_of_clock_failure (s := withTarget f s) hdis hready hfail, startClock_withTarget,
      clockFail_withTarget]
  · simp [htopo] at hlegacy
  · rw [h, enable_of_result (s := withTarget f s) hdis htopo hres,
      sharedEnable_of_clock (s := withTarget f s) r hok, startClock_withTarget, sharedPowerUp_withTarget]

/-- Settles O24: `enable_withTarget` for the state that `ENABLE` reaches. -/
theorem enableSharedIgnoresTarget : Obligations.EnableSharedIgnoresTarget := by
  intro s t f htopo h
  cases h
  exact congrArg Host.Outcome.next (enable_withTarget f htopo)

/-! ### `DISABLE` -/

/-- The teardown whole: `REG_ROUTE` and `REG_PLLDIV` keep their values (R150, R153). -/
theorem teardown_eq (s : State) :
    teardown s = { s with
      hist := s.hist ++ (teardownSteps s).map Prod.snd,
      dev := { s.dev with pll := some (zeroPll s.cfg.topo), chan := some 0, en := some zeroEn },
      clk := .off, rst := .asserted, lockKnown := false, seqState := .disabled, upc := .disRst } := by
  simp [teardown, teardownSteps, microStep_regWrite, microStep_clkDisable, microStep_resetAssert, DeviceRegs.write]

/-- Settles O26: the teardown of `teardown_eq`, then the command's end. -/
theorem disableTearsDownInOrder : Obligations.DisableTearsDownInOrder := by
  intro keep s hen hfull
  rw [exec_disable, disable_of_teardown hen hfull, teardown_eq]
  rfl

/-- Settles O27: `LEGACY` has one path for each state of the sequencer, whatever the flag. -/
theorem disableKeepSkipsTeardown : Obligations.DisableKeepSkipsTeardown := by
  refine ⟨fun s hen htopo => ?_, fun s htopo => ?_⟩
  · rw [exec_disable, disable_of_keep hen htopo]; rfl
  · rw [exec_disable, exec_disable]
    cases hs : s.seqState with
    | disabled => rw [disable_of_disabled true hs, disable_of_disabled false hs]
    | enabled => rw [disable_of_teardown hs (.inl htopo), disable_of_teardown hs (.inl htopo)]

/-- Settles O28: the first check of `DISABLE` ends the command. -/
theorem disableWhileDisabledIsNoOp : Obligations.DisableWhileDisabledIsNoOp := by
  intro keep s hdis
  rw [exec_disable, disable_of_disabled keep hdis]
  rfl

end Sys2Proof.Machine
end

section
/-! PROOFS. The two steps that end a legacy power-up (R141, R146, R194), the bands of its PLL (R144), and the clamp
table (R161). -/

namespace Sys2Proof.Machine

/-! ### The timer step and the resume step -/

theorem advance_of_running {s : State} {t : Nat} (hupc : s.upc = .enLReady) (htimer : s.timer = .running t) :
    advance s = endSettle s := by
  simp [advance, hupc, htimer]

theorem advance_of_ended {s : State} (hupc : s.upc = .enLReady) (htimer : s.timer = .ended) :
    advance s = resume s := by
  simp [advance, hupc, htimer]

/-- The resume step whole. The `READY` write has `PLLEN` set, so what is known of the lock stays, and a `SHARED` PLL
is locked in any case (log entry 12). -/
theorem resume_eq (s : State) :
    resume s = { s with
      hist := s.hist ++ [enWrite s true true true true],
      dev := { s.dev with en := some { bias := true, lvEn := true, pllEn := true, ready := true,
                                       other := Config.enOther s.cfg.gen s.cfg.topo s.mode } },
      lockKnown := s.cfg.topo == .shared || s.lockKnown,
      timer := .idle, seqState := .enabled, status := .ok, busy := false, upc := .idle } := rfl

/-- Settles O50: with the timer running, the step without a host move is the timer's. -/
theorem timerStepEndsDelay : Obligations.TimerStepEndsDelay := by
  intro s t rest ha hf hno hupc htimer
  rw [step_of_noHostMove ha hf hno, advance_of_running (s := { s with moves := rest }) hupc htimer]
  rfl

/-- Once the delay has ended, the step without a host move is the resume step, in either topology. -/
theorem step_of_ended {s : State} {rest : List Move} (ha : s.attached = true) (hf : s.faulted = none)
    (hno : Claim.NoHostMove s rest) (hupc : s.upc = .enLReady) (htimer : s.timer = .ended) :
    step s = .next (resume { s with moves := rest }) := by
  rw [step_of_noHostMove ha hf hno, advance_of_ended (s := { s with moves := rest }) hupc htimer]

/-- Settles O51: `step_of_ended` and `resume_eq`, where in `LEGACY` the knowledge of the lock stays. -/
theorem resumeStepEndsPowerUp : Obligations.ResumeStepEndsPowerUp := by
  intro s rest ha hf hno htopo hupc htimer
  rw [step_of_ended ha hf hno hupc htimer, resume_eq]
  simp [enWrite, htopo]

/-- A run whose first step is known. -/
theorem run_succ_of_step {M : Host.Core} {s u : M.State} (n : Nat) (h : M.step s = .next u) :
    M.run (n + 1) s = M.run n u := by
  simp [Host.Core.run, h]

/-- Settles O22: the timer step of O50 uses up the first `wait`, if there is one, and the resume step the second. -/
theorem settleDelayEndsEnabled : Obligations.SettleDelayEndsEnabled := by
  intro s t rest ha hf hmoves hupc htimer
  obtain ⟨mid, hfirst, hsecond⟩ : ∃ mid, Claim.NoHostMove s mid ∧ ((mid = [] ∧ rest = []) ∨ mid = .wait :: rest) := by
    obtain ⟨hm, hrest⟩ | ⟨hm, hrest⟩ | hm := hmoves
    · exact ⟨[], .inl ⟨hm, rfl⟩, .inl ⟨rfl, hrest⟩⟩
    · exact ⟨[], .inr hm, .inl ⟨rfl, hrest⟩⟩
    · exact ⟨.wait :: rest, .inr hm, .inr rfl⟩
  have htick := timerStepEndsDelay s t mid ha hf hfirst hupc htimer
  have hresume := step_of_ended (s := { s with moves := mid, timer := .ended, lockKnown := true }) (rest := rest)
    ha hf hsecond hupc rfl
  rw [run_succ_of_step (M := Sys2Proof.core) 1 htick, run_succ_of_step (M := Sys2Proof.core) 0 hresume, resume_eq]
  simp [Host.Core.run, enWrite]

/-! ### The bands (R144) -/

theorem bandThresh_increases (g : Gen) :
    bandThresh g 0 < bandThresh g 1 ∧ bandThresh g 1 < bandThresh g 2 ∧ bandThresh g 2 < bandThresh g 3 := by
  simp only [bandThresh]
  omega

/-- The band of a frequency, by the three comparisons that are made. -/
theorem band_cases (g : Gen) (f : Nat) :
    (f < bandThresh g 0 ∧ band g f = 0)
    ∨ (bandThresh g 0 ≤ f ∧ f < bandThresh g 1 ∧ band g f = 1)
    ∨ (bandThresh g 1 ≤ f ∧ f < bandThresh g 2 ∧ band g f = 2)
    ∨ (bandThresh g 2 ≤ f ∧ band g f = 3) := by
  obtain ⟨h₀₁, h₁₂, -⟩ := bandThresh_increases g
  by_cases h₀ : f < bandThresh g 0
  · exact .inl ⟨h₀, by simp [band, h₀]⟩
  by_cases h₁ : f < bandThresh g 1
  · exact .inr (.inl ⟨by omega, h₁, by simp [band, h₀, h₁]⟩)
  by_cases h₂ : f < bandThresh g 2
  · exact .inr (.inr (.inl ⟨by omega, h₂, by simp [band, h₀, h₁, h₂]⟩))
  · exact .inr (.inr (.inr ⟨by omega, by simp [band, h₀, h₁, h₂]⟩))

/-- The four bands are disjoint, so each of `band_cases` holds exactly when its band is the one selected. -/
theorem band_iff (g : Gen) (f : Nat) :
    (band g f = 0 ↔ f < bandThresh g 0)
    ∧ (band g f = 1 ↔ bandThresh g 0 ≤ f ∧ f < bandThresh g 1)
    ∧ (band g f = 2 ↔ bandThresh g 1 ≤ f ∧ f < bandThresh g 2)
    ∧ (band g f = 3 ↔ bandThresh g 2 ≤ f) := by
  obtain ⟨h₀₁, h₁₂, -⟩ := bandThresh_increases g
  obtain ⟨hf, hb⟩ | ⟨hlo, hhi, hb⟩ | ⟨hlo, hhi, hb⟩ | ⟨hf, hb⟩ := band_cases g f
  all_goals
    simp [hb]
    omega

/-- Settles O25: the fourth threshold lies above the third, from which on the band is 3. -/
theorem bandsAreHalfOpen : Obligations.BandsAreHalfOpen := by
  refine ⟨bandThresh_increases, band_iff, fun g f hf => ?_, rfl⟩
  obtain ⟨-, -, h₂₃⟩ := bandThresh_increases g
  obtain ⟨-, -, -, hthree⟩ := band_iff g f
  exact hthree.2 (h₂₃.le.trans hf)

/-! ### The clamp table (R161) -/

/-- Settles O16, from `clamp_table`: 999 000 lies above either maximum. -/
theorem clampTable : Obligations.ClampTable := by
  refine ⟨rfl, rfl, fun g => ?_⟩
  obtain ⟨hle, hlt⟩ := clamp_table g
  exact ⟨hle, hlt, clampNat_of_hi_lt hlt⟩

end Sys2Proof.Machine
end

section
/-! PROOFS. The packing of a device register keeps zero and loses no named field (R193; log entry 14), and no run of a
block has a hazard (R194, R227, R260, R262). -/

namespace Sys2Proof.Machine

/-! ### Two parts of a word -/

/-- A word that is only made wider keeps its value. -/
theorem setWidth_injective {v w : Nat} (h : v ≤ w) : Function.Injective (BitVec.setWidth w : BitVec v → BitVec w) := by
  intro x y hxy
  simpa [BitVec.setWidth_setWidth_of_le, h] using congrArg (BitVec.setWidth v) hxy

/-- Words side by side are equal part by part. -/
theorem append_eq_append_iff {v w : Nat} {x x' : BitVec v} {y y' : BitVec w} :
    x ++ y = x' ++ y' ↔ x = x' ∧ y = y' := by
  refine ⟨fun h => ⟨?_, ?_⟩, fun ⟨hx, hy⟩ => hx ▸ hy ▸ rfl⟩
  · simpa [BitVec.extractLsb'_append_eq_left] using congrArg (BitVec.extractLsb' w v) h
  · simpa [BitVec.extractLsb'_append_eq_right] using congrArg (BitVec.extractLsb' 0 w) h

/-! ### The packing as a permutation -/

/-- A permutation made to keep zero does so. -/
theorem keepZero_zero (e : Equiv.Perm Word) : keepZero e 0 = 0 := Equiv.swap_apply_left (e 0) 0

/-- The permutation by which `pack` spreads the named fields of register `r`, for one value `o` of `OTHER`. -/
def packPerm (g : Gen) (t : Topo) (r : Reg) (o : FieldVal) : Equiv.Perm Word :=
  if o = 0 then keepZero (Config.packing g t r o) else Config.packing g t r o

theorem pack_eq_packPerm (g : Gen) (t : Topo) (w : RegWrite) : pack g t w = packPerm g t w.reg w.other w.named := rfl

/-- A record whose every field is 0 packs to 0 (R193). -/
theorem pack_eq_zero (g : Gen) (t : Topo) {w : RegWrite} (hother : w.other = 0) (hnamed : w.named = 0) :
    pack g t w = 0 := by
  rw [pack_eq_packPerm, packPerm, if_pos hother, hnamed, keepZero_zero]

/-- Records of one register with one value of `OTHER` that pack to the same word have the same named fields (D16). -/
theorem named_eq_of_pack_eq {g : Gen} {t : Topo} {w w' : RegWrite} (h : pack g t w = pack g t w')
    (hreg : w.reg = w'.reg) (hother : w.other = w'.other) : w.named = w'.named := by
  rw [pack_eq_packPerm, pack_eq_packPerm, hreg, hother] at h
  exact (packPerm g t w'.reg w'.other).injective h

/-! ### The named fields of the registers with several -/

theorem named_pll_shared_inj {n n' : BitVec 7} {m m' : BitVec 3} {e e' : Bool} {o : FieldVal}
    (h : (RegWrite.pll (.shared n m e o)).named = (RegWrite.pll (.shared n' m' e' o)).named) :
    n = n' ∧ m = m' ∧ e = e' := by
  have hparts := setWidth_injective (by decide) h
  simp only [append_eq_append_iff, BitVec.ofBool_eq_iff_eq] at hparts
  obtain ⟨⟨he, hm⟩, hn⟩ := hparts
  exact ⟨hn, hm, he⟩

theorem named_en_inj {v v' : EnFields} (h : (RegWrite.en v).named = (RegWrite.en v').named)
    (hother : v.other = v'.other) : v = v' := by
  obtain ⟨bias, lvEn, pllEn, ready, other⟩ := v
  obtain ⟨bias', lvEn', pllEn', ready', other'⟩ := v'
  have hparts := setWidth_injective (by decide) h
  simp only [append_eq_append_iff, BitVec.ofBool_eq_iff_eq] at hparts
  obtain ⟨⟨⟨rfl, rfl⟩, rfl⟩, rfl⟩ := hparts
  exact congrArg (EnFields.mk bias lvEn pllEn ready) hother

/-- Settles O33: the packing of each register is a permutation for each value of `OTHER`, applied to the named fields
side by side. -/
theorem packingKeepsZeroAndNamedFields : Obligations.PackingKeepsZeroAndNamedFields := by
  refine ⟨fun g t => ⟨?pll, ?chan, ?route, ?pllDiv, ?en⟩, ?legacyInj, ?sharedInj, ?enInj, ?pllDivInj, ?chanInj,
    ?routeInj⟩
  case pll => cases t <;> exact pack_eq_zero _ _ rfl rfl
  case chan | route | pllDiv | en => exact pack_eq_zero g t rfl rfl
  case legacyInj => exact fun _ _ _ _ _ h => named_eq_of_pack_eq h rfl rfl
  case sharedInj => exact fun _ _ _ _ _ _ _ _ _ h => named_pll_shared_inj (named_eq_of_pack_eq h rfl rfl)
  case enInj => exact fun _ _ _ _ h hother => named_en_inj (named_eq_of_pack_eq h rfl hother) hother
  case pllDivInj => exact fun _ _ _ _ h => setWidth_injective (by decide) (named_eq_of_pack_eq h rfl rfl)
  case chanInj | routeInj => exact fun _ _ _ _ h => named_eq_of_pack_eq h rfl rfl

/-! ### Hazards -/

/-- Settles O45: attach meets the invariant, a run keeps it, and it says that the history is hazard free. -/
theorem everyRunIsHazardFree : Obligations.EveryRunIsHazardFree := by
  intro cfg rst clk moves oks waits n t hbase hrun
  have hinit := (blockInv_attach rst clk hbase).environment moves oks waits
  obtain ⟨hinv, hcfg⟩ := run_keeps_blockInv hinit hrun
  have hcfg : t.cfg = cfg := hcfg
  exact hcfg ▸ hinv.hazard_free

end Sys2Proof.Machine
end

section
/-! PROOFS. What a command that fails leaves as it was (R222), and one step of a platform (R229, R236). -/

namespace Sys2Proof.Machine

/-! ### The one failing path of each command -/

/-- Without `OK` there was no result, and the old one is lost (R110). -/
theorem writeResult_of_not_ok {r : Option PllResult} {s : State} (h : (writeResult r s).status ≠ .ok) :
    writeResult r s = finish .invalidConfiguration { s with pllRes := none } := by
  obtain ⟨p, -, hw⟩ | ⟨-, hw⟩ := writeResult_cases r s
  · exact absurd (congrArg State.status hw) h
  · exact hw

/-- Without `OK` the mode was no member of `MODES` (R170). -/
theorem storeMode_of_not_ok {mode : Nat} {s : State} (h : (storeMode mode s).status ≠ .ok) :
    storeMode mode s = finish .illegalCommand s := by
  obtain ⟨-, hm⟩ | ⟨-, hm⟩ := storeMode_cases mode s
  · exact absurd (congrArg State.status hm) h
  · exact hm

/-- Without `OK` the block was disabled already (R152). -/
theorem disable_of_not_ok {keep : Bool} {s : State} (h : (disable keep s).status ≠ .ok) :
    disable keep s = finish .invalidConfiguration s := by
  obtain ⟨-, hd⟩ | ⟨-, -, -, hd⟩ | ⟨-, -, hd⟩ := disable_cases keep s
  · exact hd
  · exact absurd (congrArg State.status hd) h
  · exact absurd (congrArg State.status hd) h

/-- The legacy branch ends in its settle delay, with the block busy (R141). -/
theorem legacyPowerUp_busy (s : State) : (legacyPowerUp s).busy = true := by
  simp [legacyPowerUp, runSteps_append, legacySteps, microStep_delay]

/-- Without a fault, a pause or `OK`, the clock did not start: a missing result is a fault (R148), and the legacy
branch pauses (R146). -/
theorem enable_of_not_ok {s : State} (hf : (enable s).faulted = none) (hb : (enable s).busy = false)
    (h : (enable s).status ≠ .ok) : clkOutcome s = false ∧ enable s = clockFail (startClock s) := by
  obtain ⟨-, he⟩ | ⟨-, -, -, he⟩ | ⟨-, hclk, -, he⟩ | ⟨-, -, -, he⟩ | ⟨r, -, -, -, -, he⟩ := enable_cases s
  · exact absurd (congrArg State.status he) h
  · simp [he] at hf
  · exact ⟨hclk, he⟩
  · simp [he, legacyPowerUp_busy] at hb
  · exact absurd (congrArg State.status he) h

/-! ### A failing command -/

/-- The states a failing command can leave: the old one with the command ended, the same without the PLL result, or
that of a clock failure. `CLAMP` never fails. -/
theorem exec_failed_cases {i : Instr} {s t : State} (h : exec i s = .next t) (hf : t.faulted = none)
    (hb : t.busy = false) (hst : t.status ≠ .ok) :
    (∃ st, st ≠ .clockEnableFailure ∧ t = finish st s)
    ∨ ((i = .pllCalc ∨ ∃ e, i = .synth e) ∧ t = finish .invalidConfiguration { s with pllRes := none })
    ∨ (clkOutcome s = false ∧ t = clockFail (startClock s)) := by
  cases i with
  | synth e => cases h; exact .inr (.inl ⟨.inr ⟨e, rfl⟩, writeResult_of_not_ok hst⟩)
  | pllCalc => cases h; exact .inr (.inl ⟨.inl rfl, writeResult_of_not_ok hst⟩)
  | clamp => cases h; exact absurd rfl hst
  | setMode mode => cases h; exact .inl ⟨_, by decide, storeMode_of_not_ok hst⟩
  | enable => cases h; exact .inr (.inr (enable_of_not_ok hf hb hst))
  | disable keep => cases h; exact .inl ⟨_, by decide, disable_of_not_ok hst⟩

/-- A clock failure whole: its three events leave the clock and the device registers alone (R143). -/
theorem clockFail_startClock_eq {s : State} (hclk : clkOutcome s = false) :
    clockFail (startClock s) = { s with
      hist := s.hist ++ [.resetDeassert, .clkEnable false, .resetAssert], rst := .asserted, lockKnown := false,
      clkAnswers := s.clkAnswers.tail, clkCount := s.clkCount + 1,
      status := .clockEnableFailure, busy := false, upc := .idle } := by
  simp [clockFail_eq, startClock_eq hclk]

/-- Settles O47: of the three states of `exec_failed_cases`, the last alone has the status of a clock failure. -/
theorem failedCommandsChangeLittle : Obligations.FailedCommandsChangeLittle := by
  intro i s t h hf hb hst
  obtain ⟨st, hne, rfl⟩ | ⟨hi, rfl⟩ | ⟨hclk, rfl⟩ := exec_failed_cases h hf hb hst
  · exact ⟨rfl, rfl, rfl, rfl, rfl, fun _ => ⟨rfl, rfl⟩, fun hfail => absurd hfail hne, .inl rfl⟩
  · exact ⟨rfl, rfl, rfl, rfl, rfl, fun _ => ⟨rfl, rfl⟩, nofun, .inr ⟨rfl, hi⟩⟩
  · rw [clockFail_startClock_eq hclk]
    exact ⟨rfl, rfl, rfl, rfl, rfl, fun hne => absurd rfl hne, fun _ => ⟨rfl, rfl, rfl⟩, .inl rfl⟩

/-! ### One step of a platform -/

/-- Settles O41: by `stepLane_cases` the step sets position `k` of the list, and no other. -/
theorem lanesStepIndependently : Obligations.LanesStepIndependently := by
  intro k blocks after h
  obtain ⟨s, t, hs, hstep, rfl⟩ := stepLane_cases h
  obtain ⟨hk, -⟩ := List.getElem?_eq_some_iff.mp hs
  exact ⟨List.length_set, fun j hj => List.getElem?_set_ne hj.symm, s, t, hs, hstep, List.getElem?_set_self hk⟩

end Sys2Proof.Machine
end

section
/-! PROOFS. Attach of all lanes (R251, R252), detach (R253), and the end of a run over all lanes (R272). -/

namespace Sys2Proof.Machine

/-! ### Attach of all lanes -/

theorem attachLane_of_no_memory (rst : ResetLine) (clk : ClockLine) {d : LaneDesc} (h : d.memory = false) :
    attachLane rst clk d = .error .allocationFailure := by
  simp [attachLane, h]

/-- A lane with memory is attached or lacks a resource: its attach never aborts the whole (R251, R252). -/
theorem attachLane_of_memory (rst : ResetLine) (clk : ClockLine) {d : LaneDesc} (h : d.memory = true) :
    (∃ cfg, attachLane rst clk d = .ok (State.attach cfg rst clk))
    ∨ attachLane rst clk d = .error .resourceUnavailable := by
  obtain ⟨base, ch, rh, -, -, -, -, hok, -⟩ | ⟨-, herr⟩ := attachLaneNeedsResources rst clk d h
  · exact .inl ⟨_, hok⟩
  · exact .inr herr

/-- A block that attach creates has emitted nothing (R41). -/
theorem hist_of_attachLane {rst : ResetLine} {clk : ClockLine} {d : LaneDesc} {s : State}
    (h : (attachLane rst clk d).toOption = some s) : s.hist = [] := by
  cases hmem : d.memory with
  | false =>
    rw [attachLane_of_no_memory rst clk hmem] at h
    cases h
  | true =>
    obtain ⟨cfg, hok⟩ | herr := attachLane_of_memory rst clk hmem
    · rw [hok] at h
      cases h
      rfl
    · rw [herr] at h
      cases h

/-- A lane without memory aborts the attach there (R252). -/
theorem attachAll_cons_of_no_memory (rst : ResetLine) (clk : ClockLine) {d : LaneDesc} (ds : List LaneDesc)
    (h : d.memory = false) : attachAll rst clk (d :: ds) = .error .allocationFailure := by
  simp [attachAll, attachLane_of_no_memory rst clk h]

/-- A lane with memory adds its report, and its block if it has one, to what the other lanes leave (R251). -/
theorem attachAll_cons_of_memory (rst : ResetLine) (clk : ClockLine) {d : LaneDesc} (ds : List LaneDesc)
    (h : d.memory = true) : ∃ st, attachAll rst clk (d :: ds) = (attachAll rst clk ds).map fun a =>
      { blocks := (attachLane rst clk d).toOption.toList ++ a.blocks, reports := (d.lane, st) :: a.reports } := by
  obtain ⟨cfg, hok⟩ | herr := attachLane_of_memory rst clk h
  · exact ⟨.ok, by simp [attachAll, hok, Except.toOption]⟩
  · exact ⟨.resourceUnavailable, by simp [attachAll, herr, Except.toOption]⟩

/-- The lanes before the one without memory are attached in vain (R252). -/
theorem attachAll_of_no_memory (rst : ResetLine) (clk : ClockLine) {ds : List LaneDesc}
    (h : ∃ d ∈ ds, d.memory = false) : attachAll rst clk ds = .error .allocationFailure := by
  induction ds with
  | nil => simp at h
  | cons d ds ih =>
    cases hd : d.memory with
    | false => exact attachAll_cons_of_no_memory rst clk ds hd
    | true =>
      have htail : ∃ d ∈ ds, d.memory = false := by simpa [hd] using h
      obtain ⟨st, hcons⟩ := attachAll_cons_of_memory rst clk ds hd
      rw [hcons, ih htail]
      rfl

/-- With memory for every lane, the blocks are those of the lanes that can be attached, in their order (R251). -/
theorem attachAll_of_memory (rst : ResetLine) (clk : ClockLine) {ds : List LaneDesc} (h : ∀ d ∈ ds, d.memory = true) :
    ∃ a, attachAll rst clk ds = .ok a ∧ a.blocks = ds.filterMap fun d => (attachLane rst clk d).toOption := by
  induction ds with
  | nil => exact ⟨_, rfl, rfl⟩
  | cons d ds ih =>
    obtain ⟨hd, htail⟩ := List.forall_mem_cons.mp h
    obtain ⟨a, ha, hblocks⟩ := ih htail
    obtain ⟨st, hcons⟩ := attachAll_cons_of_memory rst clk ds hd
    refine ⟨_, by rw [hcons, ha]; rfl, ?_⟩
    simp only [hblocks, List.filterMap_cons]
    cases (attachLane rst clk d).toOption <;> rfl

/-- Settles O40: each block of `attachAll_of_memory` is one that `attachLane` created. -/
theorem allocationFailureLeavesNoBlock : Obligations.AllocationFailureLeavesNoBlock := by
  intro rst clk ds
  refine ⟨attachAll_of_no_memory rst clk, fun hmem => ?_⟩
  obtain ⟨a, ha, hblocks⟩ := attachAll_of_memory rst clk hmem
  refine ⟨a, ha, hblocks, fun s hs => ?_⟩
  rw [hblocks] at hs
  obtain ⟨d, -, hd⟩ := List.mem_filterMap.mp hs
  exact hist_of_attachLane hd

/-! ### Detach -/

theorem detach_of_busy {s : State} (hb : s.busy = true) : detach s = raise .busyIssue s := by
  simp [detach, hb]

theorem detach_of_disabled {s : State} (hb : s.busy = false) (hdis : s.seqState = .disabled) :
    detach s = { s with attached := false } := by
  simp [detach, hb, hdis]

theorem detach_of_enabled {s : State} (hb : s.busy = false) (hen : s.seqState = .enabled) :
    detach s = { teardown s with upc := .idle, attached := false } := by
  simp [detach, hb, hen]

theorem step_of_detached {s : State} (h : s.attached = false) : step s = .fault .noBlock := by
  simp [step, h]

/-- Settles O36: the three paths of a detach, the torn-down one by `teardown_eq`, then its two steps. -/
theorem detachLeavesDisabled : Obligations.DetachLeavesDisabled := by
  refine ⟨fun s => detach_of_busy, fun s => detach_of_disabled, fun s hb hen => ?_, fun s rest ha hf hm => ?_,
    fun s => step_of_detached⟩
  · rw [detach_of_enabled hb hen, teardown_eq]
    rfl
  · rw [step_of_moves_cons ha hf hm, makeMove_detach]

/-! ### The end of a run -/

/-- The end of a run, lane by lane. -/
theorem runEnded_iff_getElem? {blocks : List State} :
    RunEnded blocks ↔ ∀ (k : Nat) (s : State), blocks[k]? = some s → BlockEnded s := by
  refine ⟨fun h k s hk => h s (List.mem_of_getElem? hk), fun h s hs => ?_⟩
  obtain ⟨k, hk⟩ := List.mem_iff_getElem?.mp hs
  exact h k s hk

theorem Paused.not_blockEnded {s : State} (h : Paused s) : ¬ BlockEnded s := by
  obtain ⟨hbusy, -⟩ := h
  rintro ⟨-, hidle, -⟩
  simp [hbusy] at hidle

theorem observeRun_getElem? {blocks : List State} {k : Nat} {s : State} (h : blocks[k]? = some s) :
    (observeRun blocks)[k]? = some (observe s) := by
  simp [observeRun, h]

/-- Settles O54: a lane in its settle delay is busy, so it keeps the whole run from its end. -/
theorem runEndsWhenEveryLaneRests : Obligations.RunEndsWhenEveryLaneRests :=
  ⟨fun _ => runEnded_iff_getElem?,
    fun _ k s hk hpaused hended => hpaused.not_blockEnded (runEnded_iff_getElem?.mp hended k s hk),
    fun _ _ _ hk => observeRun_getElem? hk⟩

end Sys2Proof.Machine
end
